-- ==== Sys2Proof/Word.lean ====
section
/-! DEFINITION. The word types of the two serial lines and of the converters. -/

namespace Sys2Proof

/-- A byte of the office line or the telemetry line. -/
abbrev Byte := BitVec 8

/-- A 12-bit converter code of an analogue input (R10). -/
abbrev Code := BitVec 12

/-- The 16-bit check of R202. -/
abbrev Check := BitVec 16

end Sys2Proof
end

