-- ==== Sys2Proof/Config.lean ====
section
/-! DEFINITION. The sizes and limits the manual fixes for the HX240. The spec leaves no configuration value open,
so no constant here is opaque. -/

namespace Sys2Proof.Config

/-- R64: the order list holds at most 8 orders. -/
def orderListMax : Nat := 8
/-- R64: the ended list holds the last four ends. -/
def endedListMax : Nat := 4
/-- R160: the hour store holds up to 48 records. -/
def hourStoreMax : Nat := 48
/-- R160: the day store holds up to 14 records. -/
def dayStoreMax : Nat := 14
/-- R174: at most 8 requests are outstanding. -/
def outstandingMax : Nat := 8
/-- R180: the notice queue never holds more than 16. -/
def noticeQueueMax : Nat := 16
/-- R152: each total of a period is kept at this limit. -/
def totalMax : Nat := 4000000000
/-- R65: the next-number counter runs 1..999. -/
def orderNumberMax : Nat := 999
/-- R37: both counters of the pressure check stop at 30. -/
def checkCountMax : Nat := 30
/-- R114: the minimum run of a booster, in minute events. -/
def boosterRunMin : Nat := 10
/-- R52: the make-flowing timer, in seconds. -/
def makeTimerSeconds : Nat := 60
/-- R91: a programme ring has 16 entries. -/
def ringSize : Nat := 16
/-- R132: the meter count wraps at 2^24. -/
def meterModulus : Nat := 16777216
/-- R200: the longest body of an office frame. -/
def bodyMax : Nat := 240
/-- R187: the product name, as characters. -/
def productName : List Byte :=
  [0x56, 0x61, 0x66, 0x72, 0x69, 0x6E, 0x20, 0x48, 0x58, 0x32, 0x34, 0x30]

end Sys2Proof.Config
end

