-- ==== Sys2Proof/Syntax.lean ====
section
/-! DEFINITION. The commands of the block: one constructor of `Instr` for each row of spec/opcode_table.json, and the
names its operands use. -/

namespace Sys2Proof

/-- Holders H1..H4. -/
inductive HolderId where
  | h1 | h2 | h3 | h4
  deriving DecidableEq, Repr

/-- Districts D1..D3. -/
inductive DistrictId where
  | d1 | d2 | d3
  deriving DecidableEq, Repr

/-- The two valves of a holder (R44). -/
inductive Side where
  | inlet | outlet
  deriving DecidableEq, Repr

/-- The two limit switches of a valve (R44). -/
inductive Switch where
  | openLimit | closedLimit
  deriving DecidableEq, Repr

/-- One value for each holder channel. -/
structure PerHolder (α : Type) where
  h1 : α
  h2 : α
  h3 : α
  h4 : α
  deriving DecidableEq, Repr

/-- One value for each district index. -/
structure PerDistrict (α : Type) where
  d1 : α
  d2 : α
  d3 : α
  deriving DecidableEq, Repr

/-- The nine records of the Definition Store (R183). -/
inductive RecordId where
  | identity
  | yard
  | holder (h : HolderId)
  | district (d : DistrictId)
  deriving DecidableEq, Repr

/-- One value for each of the nine records (R183). -/
structure PerRecord (α : Type) where
  identity : α
  yard : α
  holders : PerHolder α
  districts : PerDistrict α
  deriving DecidableEq, Repr

/-! ### Selecting by index -/

/-- The holders in index order. -/
def allHolders : List HolderId := [.h1, .h2, .h3, .h4]

/-- The districts in index order. -/
def allDistricts : List DistrictId := [.d1, .d2, .d3]

def PerHolder.get {α : Type} (p : PerHolder α) : HolderId → α
  | .h1 => p.h1
  | .h2 => p.h2
  | .h3 => p.h3
  | .h4 => p.h4

def PerHolder.put {α : Type} (p : PerHolder α) (h : HolderId) (a : α) : PerHolder α :=
  match h with
  | .h1 => { p with h1 := a }
  | .h2 => { p with h2 := a }
  | .h3 => { p with h3 := a }
  | .h4 => { p with h4 := a }

def PerHolder.of {α : Type} (f : HolderId → α) : PerHolder α := ⟨f .h1, f .h2, f .h3, f .h4⟩

def PerDistrict.get {α : Type} (p : PerDistrict α) : DistrictId → α
  | .d1 => p.d1
  | .d2 => p.d2
  | .d3 => p.d3

def PerDistrict.put {α : Type} (p : PerDistrict α) (d : DistrictId) (a : α) : PerDistrict α :=
  match d with
  | .d1 => { p with d1 := a }
  | .d2 => { p with d2 := a }
  | .d3 => { p with d3 := a }

def PerDistrict.of {α : Type} (f : DistrictId → α) : PerDistrict α := ⟨f .d1, f .d2, f .d3⟩

def PerRecord.get {α : Type} (p : PerRecord α) : RecordId → α
  | .identity => p.identity
  | .yard => p.yard
  | .holder h => p.holders.get h
  | .district d => p.districts.get d

def PerRecord.put {α : Type} (p : PerRecord α) (r : RecordId) (a : α) : PerRecord α :=
  match r with
  | .identity => { p with identity := a }
  | .yard => { p with yard := a }
  | .holder h => { p with holders := p.holders.put h a }
  | .district d => { p with districts := p.districts.put d a }

/-- The limit switch readings of one valve: whether each limit is made. -/
structure ValveLimits where
  openMade : Bool
  closedMade : Bool
  deriving DecidableEq, Repr

/-- The limit switch readings of a holder's two valves. -/
structure HolderLimits where
  inlet : ValveLimits
  outlet : ValveLimits
  deriving DecidableEq, Repr

/-- The speed of the office line, chosen by the baud strap (R169). -/
inductive OfficeSpeed where
  | baud9600 | baud19200
  deriving DecidableEq, Repr

/-- How a store operation broken off by a power-up leaves a record (R5, R34, R87, R188): the record before it, the
record it was to make, or a record with a bad check (the check stored and the check computed). -/
inductive BrokenOff where
  | asBefore
  | asAfter
  | bad (stored computed : Check)
  deriving DecidableEq, Repr

/-- What the end of a STORE CLEAR finds in one record (R188): whether it read back erased; if its definition is
rewritten, whether the rewrite verified; and the checks of the record where it is left bad. -/
structure ClearReadBack where
  erased : Bool
  rewriteVerified : Bool
  stored : Check
  computed : Check
  deriving DecidableEq, Repr

/-- The commands. A request command is the arrival of a good request frame of its kind with the tag and body given. -/
inductive Instr where
  | identify (tag : Byte) (body : List Byte)
  | setWorksIdentity (tag : Byte) (body : List Byte)
  | defineYard (tag : Byte) (body : List Byte)
  | storeClear (tag : Byte) (body : List Byte)
  | restart (tag : Byte) (body : List Byte)
  | setClock (tag : Byte) (body : List Byte)
  | defineHolder (tag : Byte) (body : List Byte)
  | removeHolder (tag : Byte) (body : List Byte)
  | setBands (tag : Byte) (body : List Byte)
  | holderStatus (tag : Byte) (body : List Byte)
  | submitOrder (tag : Byte) (body : List Byte)
  | cancelOrder (tag : Byte) (body : List Byte)
  | orderList (tag : Byte) (body : List Byte)
  | ordersHold (tag : Byte) (body : List Byte)
  | ordersResume (tag : Byte) (body : List Byte)
  | defineDistrict (tag : Byte) (body : List Byte)
  | removeDistrict (tag : Byte) (body : List Byte)
  | districtStatus (tag : Byte) (body : List Byte)
  | writeStep (tag : Byte) (body : List Byte)
  | readStep (tag : Byte) (body : List Byte)
  | setLastStep (tag : Byte) (body : List Byte)
  | programmeRun (tag : Byte) (body : List Byte)
  | programmePause (tag : Byte) (body : List Byte)
  | programmeClear (tag : Byte) (body : List Byte)
  | setRepeat (tag : Byte) (body : List Byte)
  | stationStatus (tag : Byte) (body : List Byte)
  | clearStationMarks (tag : Byte) (body : List Byte)
  | stationPass (tag : Byte) (body : List Byte)
  | readHourRecord (tag : Byte) (body : List Byte)
  | readDayRecord (tag : Byte) (body : List Byte)
  | rewindHours (tag : Byte) (body : List Byte)
  | rewindDays (tag : Byte) (body : List Byte)
  | runningTotals (tag : Byte) (body : List Byte)
  | readFault (tag : Byte) (body : List Byte)
  | clearFault (tag : Byte) (body : List Byte)
  | yardStatus (tag : Byte) (body : List Byte)
  | noticesOn (tag : Byte) (body : List Byte)
  | noticesOff (tag : Byte) (body : List Byte)
  /-- R170: one byte of the office line; `framingError` when its stop bit is not found (R169). -/
  | receiveByte (b : Byte) (framingError : Bool)
  | gapTimerExpiry
  | transmitFrame
  | officeFrameSent
  /-- R184: the operation in flight ends; `verified` when its read-back agrees. -/
  | storeOperationDone (verified : Bool)
  /-- R184: the rewrite after a failed verify ends; the checks are those of a record left bad. -/
  | storeRollbackDone (verified : Bool) (stored computed : Check)
  /-- R188: the nine erasures end and are read back. -/
  | storeClearErasuresDone (found : PerRecord ClearReadBack)
  /-- R9: the gauge sample of a holder with its three converter codes. -/
  | holderSample (h : HolderId) (crown pressure temperature : Code)
  | barometerSample (code : Code)
  /-- R194: the Fault Recorder takes the fault at this position of those handed to it (0 is the oldest). -/
  | faultTaken (position : Nat)
  /-- R48: a limit switch of a valve is made or lost. -/
  | limitEvent (h : HolderId) (side : Side) (switch : Switch) (made : Bool)
  | valveTravelTimeout (h : HolderId) (side : Side)
  | makePulse
  | makeFlowingExpiry
  | minuteEvent
  | stationReadDue (d : DistrictId)
  | telemetryQuietEnd
  | telemetryTransmitDone
  | telemetryByteReceived (b : Byte)
  | replyWindowExpiry
  | resetPulseStart
  | resetPulseEnd
  | resetPulseLong
  | warmRestartBegin
  /-- R192: a power-up reads the strap and the limits; `broken` is how a store operation it broke off left its record. -/
  | powerUp (strap : OfficeSpeed) (limits : PerHolder HolderLimits) (broken : PerRecord BrokenOff)
  | yardClockSecond
  deriving DecidableEq, Repr

end Sys2Proof
end

