-- ==== Sys2Proof/Decode.lean ====
section
/-! DEFINITION. The command a word of table bits spells. No row of spec/opcode_table.json gives bits (every row's
"fields" is empty and none has "fixed" bits), so no word spells a command. -/

namespace Sys2Proof

/-- The command spelled by a word of the table's bits: none, since no row gives bits. -/
def decodeTableWord (_nbits _w : Nat) : Option Instr := none

end Sys2Proof
end

