-- ==== Sys2Proof/Machine/State.lean ====
section
/-! DEFINITION. The state of the controller, block by block, as plain data, and the state after reset. -/

namespace Sys2Proof.Machine

/-! ### Stock Unit: definitions and holder records (chapters 1 and 2) -/

/-- R2: the band mode. -/
inductive BandMode where
  | follow | latch
  deriving DecidableEq, Repr

/-- R51: the connection state of a holder. -/
inductive ConnState where
  | isolated | filling | drawing | floating
  deriving DecidableEq, Repr

/-- R2: the area (dm²) and travel (mm) of one lift. -/
structure Lift where
  area : Nat
  travel : Nat
  deriving DecidableEq, Repr

/-- R2: a holder definition with its defaults applied; the index is its place. -/
structure HolderDef where
  lifts : List Lift
  expected : List Nat
  landedVolume : Nat
  span : Nat
  inletTime : Nat
  outletTime : Nat
  landingMargin : Nat
  topMargin : Nat
  tolerance : Nat
  lowOffset : Nat
  highOffset : Nat
  mode : BandMode
  deriving DecidableEq, Repr

/-- R8: the figures of one complete sample. -/
structure Figures where
  h : Nat
  pg : Nat
  t : Int
  baro : Nat
  lifts : Nat
  swept : Nat
  factor : Nat
  stock : Nat
  capacity : Nat
  freeRoom : Nat
  deriving DecidableEq, Repr

/-- R8, R11, R21: an analogue input of a holder: its last accepted value, whether it is in a LOST spell, and whether
the last sample kept a held value in place of its reading. -/
structure Input (α : Type) where
  value : Option α
  lost : Bool
  held : Bool
  deriving DecidableEq, Repr

/-- R25, R26, R29: the four holder flags (also used for a set of them). -/
structure Flags where
  landed : Bool
  top : Bool
  landingNear : Bool
  topNear : Bool
  deriving DecidableEq, Repr

/-- R40: the suspect reasons. -/
structure Reasons where
  gaugeHeld : Bool
  barometerHeld : Bool
  pressureDisagree : Bool
  deriving DecidableEq, Repr

/-! ### Manifold Controller: valve records (chapter 3) -/

/-- R44: the positions a valve can be commanded to. -/
inductive Position where
  | opened | closed
  deriving DecidableEq, Repr

/-- R27: the kinds of trip. -/
inductive TripKind where
  | landing | top
  deriving DecidableEq, Repr

/-- R44: where a commanded position came from. -/
inductive Source where
  | order (n : Nat)
  | landingTrip
  | topTrip
  | restored
  deriving DecidableEq, Repr

/-- R44: the states of a valve. -/
inductive ValveState where
  | closed | opening | opened | closing | stuck | disagree | unknown
  deriving DecidableEq, Repr

/-- R44: a valve record. `commanded` is none for NONE. The drives are a view of the state. -/
structure ValveRec where
  commanded : Option Position
  source : Source
  state : ValveState
  limits : ValveLimits
  travelTime : Nat
  timeout : Option Nat
  /-- The full length of the timeout last started, the detail of VALVE STUCK (R49). -/
  timeoutLength : Nat
  deriving DecidableEq, Repr

/-- R44: the two drives of a valve. -/
inductive Drive where
  | openDrive | closeDrive | off
  deriving DecidableEq, Repr

/-- R8, R44: the record of a defined holder, with its two valve records. -/
structure HolderRec where
  defn : HolderDef
  vsmax : Nat
  crown : Input Nat
  pressure : Input Nat
  temperature : Input Int
  discards : List Nat
  figures : Option Figures
  reasons : Reasons
  flags : Flags
  disagreeCount : Nat
  agreeCount : Nat
  disturbed : Bool
  conn : ConnState
  lastSample : Option Nat
  inlet : ValveRec
  outlet : ValveRec
  deriving DecidableEq, Repr

/-- R12: the barometer value and its LOST spell. -/
structure Barometer where
  value : Option Nat
  lost : Bool
  deriving DecidableEq, Repr

/-! ### Order Sequencer (chapter 4) -/

/-- R63: the kinds of order. -/
inductive OrderKind where
  | fill | draw | changeover | isolate
  deriving DecidableEq, Repr

/-- R63: the end actions. -/
inductive EndAction where
  | close | leave
  deriving DecidableEq, Repr

/-- R63: the phases; a FILL and a DRAW each have a RUNNING of their own (R207). -/
inductive Phase where
  | openingInlet | runningFill | openingOutlet | runningDraw | openingNew | closingOld | closing
  deriving DecidableEq, Repr

/-- R71, R81: the stock and flags last given to the sequencer while an order was ACTIVE (log 12). -/
structure Given where
  stock : Nat
  flags : Flags
  deriving DecidableEq, Repr

/-- R63: an order. `phase` is none while QUEUED. -/
structure Order where
  number : Nat
  kind : OrderKind
  holder : HolderId
  second : Option HolderId
  target : Option Nat
  deadline : Nat
  endAction : Option EndAction
  phase : Option Phase
  minutesRun : Nat
  arrivalPending : Bool
  given : Option Given
  deriving DecidableEq, Repr

/-- R82: the reasons of an end. -/
inductive EndReason where
  | atTarget | atBand | done | trip | timedOut | failed | interlocked | cancelled | removed
  deriving DecidableEq, Repr

/-- R53, R68, R75, R207: the flag or interlock that stopped a command or an order. -/
inductive Interlock where
  | landed | top | lastInlet | lastOutlet | bothLast | landingNear | topNear | aOutletNotOpen
  deriving DecidableEq, Repr

/-- R82: what an end names: the originating trip, the failed valve and its state, or the interlock. -/
inductive EndCause where
  | none
  | trip (h : HolderId) (kind : TripKind)
  | valve (h : HolderId) (side : Side) (state : ValveState)
  | interlock (h : HolderId) (which : Interlock)
  deriving DecidableEq, Repr

/-- R82: an end record. -/
structure EndRecord where
  number : Nat
  kind : OrderKind
  holder : HolderId
  second : Option HolderId
  target : Option Nat
  endAction : Option EndAction
  phase : Option Phase
  minutesRun : Nat
  reason : EndReason
  inletHeld : Bool
  outletHeld : Bool
  cause : EndCause
  lastStock : Option Nat
  minute : Nat
  deriving DecidableEq, Repr

/-- R64, R65, R81, R82: the sequencer's lists, counter and hold state, and the last stock given to it for each holder
(log 12). -/
structure Sequencer where
  orders : List Order
  ended : List EndRecord
  held : Bool
  nextNumber : Nat
  lastStock : PerHolder (Option Nat)
  deriving DecidableEq, Repr

/-! ### Programme Unit (chapters 5 and 6) and station records (chapter 7) -/

/-- R86: a district definition with its defaults applied; the index is its place. -/
structure DistrictDef where
  address : Nat
  minimum : Nat
  maximum : Nat
  lossAllowance : Nat
  booster : Bool
  boosterLead : Nat
  tolerance : Nat
  pulseWeight : Nat
  pollInterval : Nat
  deriving DecidableEq, Repr

/-- R91: a written step entry. -/
structure Step where
  target : Nat
  ramp : Nat
  hold : Nat
  report : Bool
  boost : Bool
  deriving DecidableEq, Repr

/-- R90: the states of a programme, in the order of R206. -/
inductive ProgState where
  | idle | running | paused | endHold | starved
  deriving DecidableEq, Repr

/-- R113: the tests that can want a booster. -/
inductive BoosterReason where
  | currentStep | lookAhead | governorWide
  deriving DecidableEq, Repr

/-- R108: the working figures of the last minute event that formed them. -/
structure LastFigures where
  main : Nat
  ceiling : Nat
  effective : Nat
  deriving DecidableEq, Repr

/-- R109: a reading used at a minute event and whether it was estimated. -/
structure SlotUse where
  value : Nat
  estimated : Bool
  deriving DecidableEq, Repr

/-- R109: the readings of slots 1 to 3 used at the last minute event. -/
structure SlotsUsed where
  s1 : Option SlotUse
  s2 : Option SlotUse
  s3 : Option SlotUse
  deriving DecidableEq, Repr

/-- R128: the states of a station. -/
inductive StationState where
  | unpolled | responding | silent
  deriving DecidableEq, Repr

/-- R126: the failure kinds of an attempt. -/
inductive FailureKind where
  | noReply | badCheck | wrongAddress | badEcho
  deriving DecidableEq, Repr

/-- R128: a point slot. -/
structure Slot where
  value : Option Nat
  fresh : Bool
  overflow : Bool
  deriving DecidableEq, Repr

/-- R128: a station record. `readDue` and `lastRead` are milliseconds on the model's own time base. -/
structure StationRec where
  address : Nat
  pollInterval : Nat
  state : StationState
  readDue : Nat
  lastRead : Option Nat
  slot0 : Slot
  slot1 : Slot
  slot2 : Slot
  slot3 : Slot
  lastGood : Option Nat
  lastFailure : Option FailureKind
  pendingWrite : Option Nat
  writeInFlight : Option Nat
  deriving DecidableEq, Repr

/-- R90: the programme part of a district record. -/
structure Programme where
  ring : List (Option Step)
  current : Nat
  last : Option Nat
  repeats : Bool
  repeatStart : Nat
  remaining : Nat
  setPoint : Nat
  state : ProgState
  beforePause : Option ProgState
  beforeStarve : Option ProgState
  starvingTrip : Option HolderId
  deriving DecidableEq, Repr

/-- R90, R108, R128: the record of a defined district, with its station record. -/
structure DistrictRec where
  defn : DistrictDef
  prog : Programme
  loss : Nat
  boosterCalled : Bool
  boosterRun : Nat
  boosterReason : Option BoosterReason
  short : Bool
  lowCount : Nat
  lowReported : Bool
  confirmed : Option Nat
  openingWrite : Bool
  figures : Option LastFigures
  slotsUsed : SlotsUsed
  station : StationRec
  deriving DecidableEq, Repr

/-! ### Telemetry Poller (chapter 7) -/

/-- R124: the line settings of one exchange. -/
structure LineSettings where
  speed : Nat
  quiet : Nat
  window : Nat
  deriving DecidableEq, Repr

/-- Whom an exchange serves. -/
inductive Served where
  | district (d : DistrictId)
  | pass
  deriving DecidableEq, Repr

/-- R208: the functions of a request. -/
inductive TeleFunction where
  | readPoints
  | writeSetPoint (v : Nat)
  deriving DecidableEq, Repr

/-- R125: the period of an attempt; the reply window holds the bytes collected. -/
inductive AttemptPeriod where
  | quiet
  | transmit
  | window (collected : List Byte)
  deriving DecidableEq, Repr

/-- R125: the exchange on the line. `orphan` when its record was reset or discarded meanwhile (R140). -/
structure Exchange where
  served : Served
  address : Nat
  function : TeleFunction
  attempt : Nat
  period : AttemptPeriod
  settings : LineSettings
  since : Nat
  orphan : Bool
  deriving DecidableEq, Repr

/-- R136: an accepted pass-through. -/
structure PassSlot where
  address : Nat
  tag : Byte
  inFlight : Bool
  lastFailure : Option FailureKind
  deriving DecidableEq, Repr

/-! ### Accounts Unit (chapter 8) -/

/-- R143: the yard clock. -/
structure Clock where
  minute : Nat
  second : Nat
  isSet : Bool
  deriving DecidableEq, Repr

/-- R155: the causes of a close. -/
inductive CloseCause where
  | regular | clockSet | restart | holder | district
  deriving DecidableEq, Repr

/-- R156: the marks of a record. -/
structure Marks where
  suspect : Bool
  partialPeriod : Bool
  clockUnset : Bool
  saturated : Bool
  newBase : Bool
  deriving DecidableEq, Repr

/-- R147: the open hour. `opening` is none while pending; the day number is that of the open day. -/
structure OpenHour where
  number : Nat
  start : Nat
  duration : Nat
  openedEarly : Bool
  clockUnsetSeen : Bool
  silenceSeen : Bool
  openingDoubtful : Bool
  saturated : Bool
  newBase : Bool
  make : Nat
  sendOut : PerDistrict Nat
  opening : Option Nat
  deriving DecidableEq, Repr

/-- R147, R158: the open day and the figures of its closed hours. -/
structure OpenDay where
  number : Nat
  start : Nat
  duration : Nat
  hoursClosed : Nat
  marks : Marks
  make : Nat
  sendOut : PerDistrict Nat
  opening : Option Nat
  closing : Nat
  change : Int
  deriving DecidableEq, Repr

/-- R155: an hour record. -/
structure HourRecord where
  number : Nat
  day : Nat
  start : Nat
  duration : Nat
  cause : CloseCause
  marks : Marks
  make : Nat
  sendOuts : List (DistrictId × Nat)
  opening : Nat
  holders : List (HolderId × Option Nat)
  closing : Nat
  change : Int
  unaccounted : Int
  deriving DecidableEq, Repr

/-- R158: a day record. -/
structure DayRecord where
  number : Nat
  start : Nat
  duration : Nat
  cause : CloseCause
  marks : Marks
  make : Nat
  sendOuts : List (DistrictId × Nat)
  opening : Nat
  closing : Nat
  change : Int
  unaccounted : Int
  deriving DecidableEq, Repr

/-- The open periods, the two stores with their cursors, the baselines, the SILENT holding and the day-start hour in use
(R146, R147, R151, R160, R161). -/
structure Accounts where
  hour : OpenHour
  day : OpenDay
  hours : List HourRecord
  days : List DayRecord
  hourCursor : Nat
  dayCursor : Nat
  baselines : PerDistrict (Option Nat)
  silent : PerDistrict Bool
  dayStart : Nat
  deriving DecidableEq, Repr

/-! ### Definition Store (chapter 10) -/

/-- R185: a yard definition. -/
structure YardDef where
  dayStart : Nat
  pulseWeight : Nat
  speed : Nat
  window : Nat
  quiet : Nat
  deriving DecidableEq, Repr

/-- R183: the condition of a stored record. DESIGN CHOICE (log 55): a written record stands without its check, which the
spec does not say how to form; the two checks of a bad one are what its read found. -/
inductive Stored (α : Type) where
  | erased
  | written (a : α)
  | bad (stored computed : Check)
  deriving DecidableEq, Repr

/-- R186: the works identity in force. -/
inductive Identity where
  | isSet (chars : List Byte)
  | unset
  | unreadable
  deriving DecidableEq, Repr

/-- R184: the work of a store operation. -/
inductive StoreWork where
  | defineHolder (h : HolderId) (d : HolderDef)
  | removeHolder (h : HolderId)
  | setBands (h : HolderId) (d : HolderDef)
  | defineDistrict (i : DistrictId) (d : DistrictDef)
  | removeDistrict (i : DistrictId)
  | defineYard (y : YardDef)
  | setIdentity (chars : List Byte)
  | clear
  deriving DecidableEq, Repr

/-- R184: the operation in flight: the request it answers, its work, and whether it is rewriting after a failed verify. -/
structure StoreOp where
  kind : Byte
  tag : Byte
  work : StoreWork
  rollback : Bool
  deriving DecidableEq, Repr

/-- R183: the nine records, the lost list and the operation in flight. -/
structure Store where
  identity : Stored (List Byte)
  yard : Stored YardDef
  holders : PerHolder (Stored HolderDef)
  districts : PerDistrict (Stored DistrictDef)
  lost : PerRecord Bool
  op : Option StoreOp
  deriving DecidableEq, Repr

/-! ### Fault Recorder (chapter 11) -/

/-- Section 11.1: the causes of a fault. -/
inductive FaultCause where
  | gaugeLost | gaugeJump | gaugeDisagree | valveStuck | valveDisagree | landingTrip | topTrip | stationSilent
  | storeRecordLost
  deriving DecidableEq, Repr

/-- The inputs of a holder, for GAUGE LOST (R206). -/
inductive GaugeInput where
  | crown | pressure | temperature
  deriving DecidableEq, Repr

/-- Section 11.1: the object of a fault. -/
inductive FaultObject where
  | holder (h : HolderId)
  | gauge (h : HolderId) (input : GaugeInput)
  | barometer
  | valve (h : HolderId) (side : Side)
  | district (d : DistrictId)
  | record (r : RecordId)
  deriving DecidableEq, Repr

/-- A fault handed to the Fault Recorder: cause, object and two details, each of which may be no value. -/
structure FaultReport where
  cause : FaultCause
  object : FaultObject
  detail1 : Option Int
  detail2 : Option Int
  deriving DecidableEq, Repr

/-- R193: a filled first-fault record. -/
structure FirstFault where
  fault : FaultReport
  minute : Nat
  clockUnset : Bool
  deriving DecidableEq, Repr

/-- R193, R194: the first-fault record, the further-faults mark, and the faults handed over and not yet taken. -/
structure FaultLog where
  first : Option FirstFault
  further : Bool
  handed : List FaultReport
  deriving DecidableEq, Repr

/-! ### Notices (R178) -/

/-- R59: the events of a VALVE notice. -/
inductive ValveEvent where
  | initial | moving | reversed | arrived | arrivedLate | stuck | disagree | tripHeld
  deriving DecidableEq, Repr

/-- R106: the events of a PROGRAMME notice. -/
inductive ProgEvent where
  | lastStepReached | cycleComplete | starved | outletRestored
  deriving DecidableEq, Repr

/-- R114, R115: the causes of a booster release. -/
inductive ReleaseCause where
  | minimumRunServed | starved | cleared | redefined
  deriving DecidableEq, Repr

/-- R119: what a LOW notice adds. -/
structure LowDetail where
  slot1 : Nat
  confirmed : Nat
  tolerance : Nat
  deriving DecidableEq, Repr

/-- R120: the events of a PRESSURE notice. -/
inductive PressureEvent where
  | boosterCalled (reason : Option BoosterReason)
  | boosterReleased (cause : ReleaseCause)
  | shortEntered
  | shortEnded
  | low (detail : LowDetail)
  deriving DecidableEq, Repr

/-- R165: the kinds of period. -/
inductive PeriodKind where
  | hour | day
  deriving DecidableEq, Repr

/-- R59: the content of a VALVE notice. -/
structure ValveNotice where
  holder : HolderId
  side : Side
  event : ValveEvent
  state : ValveState
  commanded : Option Position
  source : Source
  limits : ValveLimits
  conn : ConnState
  relief : Bool
  reliefChanged : Bool
  deriving DecidableEq, Repr

/-- R106: the content of a PROGRAMME notice. -/
structure ProgNotice where
  district : DistrictId
  event : ProgEvent
  state : ProgState
  current : Nat
  last : Option Nat
  repeats : Bool
  repeatStart : Nat
  remaining : Nat
  setPoint : Nat
  repeatRefused : Bool
  holder : Option HolderId
  trip : Option TripKind
  deriving DecidableEq, Repr

/-- R120: the content of a PRESSURE notice. -/
structure PressureNotice where
  district : DistrictId
  event : PressureEvent
  state : ProgState
  setPoint : Nat
  figures : Option LastFigures
  boosterCalled : Bool
  short : Bool
  deriving DecidableEq, Repr

/-- R129: the content of a STATION notice. `function` is none for a reset by R140. -/
structure StationNotice where
  district : DistrictId
  address : Nat
  before : StationState
  after : StationState
  function : Option TeleFunction
  failure : Option FailureKind
  deriving DecidableEq, Repr

/-- R165: the content of a PERIOD notice. -/
structure PeriodNotice where
  kind : PeriodKind
  number : Nat
  start : Nat
  duration : Nat
  cause : CloseCause
  marks : Marks
  make : Nat
  sendOutSum : Nat
  opening : Nat
  closing : Nat
  change : Int
  unaccounted : Int
  deriving DecidableEq, Repr

/-- R178: the ten kinds of notice with their content. -/
inductive NoticeContent where
  /-- R35. -/
  | band (h : HolderId) (flags changed : Flags) (stock freeRoom : Nat) (mode : BandMode) (minute : Nat)
  /-- R27. -/
  | trip (h : HolderId) (kind : TripKind) (crown stock minute : Nat)
  | valve (n : ValveNotice)
  /-- R82. -/
  | orderEnd (r : EndRecord)
  /-- R106: `next` is none for END-HOLD. -/
  | step (d : DistrictId) (index target setPoint : Nat) (next : Option Nat)
  | programme (n : ProgNotice)
  | pressure (n : PressureNotice)
  | station (n : StationNotice)
  | period (n : PeriodNotice)
  /-- R195: `filled` when the fault filled the record; `further` is the mark after it. -/
  | fault (f : FaultReport) (filled further : Bool)
  deriving DecidableEq, Repr

/-- R178, R180: a queued notice with the yard minute and clock-unset mark of its posting. -/
structure Notice where
  minute : Nat
  clockUnset : Bool
  content : NoticeContent
  deriving DecidableEq, Repr

/-! ### Replies (R175) -/

/-- R175: the result codes, in their order. -/
inductive Result where
  | done | busy | unknownKind | badLength | outOfRange | notDefined | wrongState | full | interlock | locked | empty
  | tooLate | notFound | storeFailed | silent
  deriving DecidableEq, Repr

/-- R187: which store operation is in flight. -/
inductive StoreActivity where
  | write (r : RecordId)
  | erasure (r : RecordId)
  | clear
  deriving DecidableEq, Repr

/-- R187: the content of the IDENTIFY reply. -/
structure IdentifyReply where
  identity : Identity
  settings : YardDef
  defaults : Bool
  holders : PerHolder Bool
  districts : PerDistrict Bool
  activity : Option StoreActivity
  lost : PerRecord Bool
  speed : OfficeSpeed
  deriving DecidableEq, Repr

/-- R21: the content of the HOLDER STATUS reply. -/
structure HolderStatusReply where
  lifts : Nat
  hmax : Nat
  vsmax : Nat
  span : Nat
  figures : Option Figures
  crownHeld : Bool
  crownLost : Bool
  pressureHeld : Bool
  pressureLost : Bool
  temperatureHeld : Bool
  temperatureLost : Bool
  barometerHeld : Bool
  barometerLost : Bool
  discards : Nat
  reasons : Reasons
  flags : Flags
  mode : BandMode
  lowOffset : Nat
  highOffset : Nat
  disagreeCount : Nat
  agreeCount : Nat
  conn : ConnState
  inlet : ValveRec
  outlet : ValveRec
  lastSample : Option Nat
  deriving DecidableEq, Repr

/-- R66: the standing of an order after its submission. -/
inductive Standing where
  | queued
  | active (p : Phase)
  | ended (r : EndReason)
  deriving DecidableEq, Repr

/-- R92: the programme summary. -/
structure Summary where
  state : ProgState
  current : Nat
  last : Option Nat
  repeats : Bool
  repeatStart : Nat
  remaining : Nat
  setPoint : Nat
  deriving DecidableEq, Repr

/-- R121: the content of the DISTRICT STATUS reply: the parts of the record, without the ring and the station record. -/
structure DistrictStatusReply where
  district : DistrictId
  defn : DistrictDef
  reserved : Bool
  summary : Summary
  beforePause : Option ProgState
  beforeStarve : Option ProgState
  starvingTrip : Option HolderId
  figures : Option LastFigures
  loss : Nat
  lossUsed : Nat
  slotsUsed : SlotsUsed
  boosterCalled : Bool
  boosterRun : Nat
  boosterReason : Option BoosterReason
  short : Bool
  lowCount : Nat
  lowReported : Bool
  confirmed : Option Nat
  openingWrite : Bool
  pendingWrite : Option Nat
  station : StationState
  deriving DecidableEq, Repr

/-- R94: the four marks of READ STEP. -/
structure StepMarks where
  isCurrent : Bool
  isLast : Bool
  committed : Bool
  isRepeatStart : Bool
  deriving DecidableEq, Repr

/-- R138: the exchange on the line, as STATION STATUS shows it. -/
structure LineView where
  function : TeleFunction
  served : Served
  attempt : Nat
  deriving DecidableEq, Repr

/-- R136, R198: the state of the pass-through slot, as YARD STATUS shows it. -/
inductive PassState where
  | empty | waiting | inFlight
  deriving DecidableEq, Repr

/-- R136, R138: the pass-through slot with its address, as STATION STATUS shows it. -/
inductive PassView where
  | empty
  | waiting (address : Nat)
  | inFlight (address : Nat)
  deriving DecidableEq, Repr

/-- R138: the content of the STATION STATUS reply. `due` says whether the read is due, `seconds` the time until it or
since it. -/
structure StationStatusReply where
  address : Nat
  pollInterval : Nat
  state : StationState
  lastGood : Option Nat
  lastFailure : Option FailureKind
  due : Bool
  seconds : Nat
  slot0 : Slot
  slot1 : Slot
  slot2 : Slot
  slot3 : Slot
  pendingWrite : Option Nat
  writeInFlight : Option Nat
  line : Option LineView
  pass : PassView
  deriving DecidableEq, Repr

/-- R164: the running figures of the open hour and the open day. -/
structure RunningReply where
  hourNumber : Nat
  dayNumber : Nat
  start : Nat
  duration : Nat
  make : Nat
  sendOuts : List (DistrictId × Nat)
  opening : Option Nat
  stock : Nat
  change : Int
  unaccounted : Int
  marks : Marks
  dayStart : Nat
  dayDuration : Nat
  dayMarks : Marks
  dayMake : Nat
  daySendOuts : List (DistrictId × Nat)
  dayOpening : Option Nat
  dayClosing : Nat
  dayChange : Int
  dayUnaccounted : Int
  deriving DecidableEq, Repr

/-- R198: the holder and manifold parts of YARD STATUS for one defined holder. -/
structure YardHolder where
  figures : Option Figures
  flags : Flags
  mode : BandMode
  reasons : Reasons
  conn : ConnState
  inlet : ValveState
  outlet : ValveState
  deriving DecidableEq, Repr

/-- R198: the district and station parts of YARD STATUS for one defined district. -/
structure YardDistrict where
  state : ProgState
  boosterCalled : Bool
  short : Bool
  lowReported : Bool
  station : StationState
  deriving DecidableEq, Repr

/-- R198: the content of the YARD STATUS reply. -/
structure YardStatusReply where
  clock : Clock
  holders : PerHolder (Option YardHolder)
  makeFlowing : Bool
  relief : Bool
  queued : Nat
  active : Nat
  held : Bool
  districts : PerDistrict (Option YardDistrict)
  pass : PassState
  hourNumber : Nat
  make : Nat
  sendOutSum : Nat
  opening : Option Nat
  stock : Nat
  marks : Marks
  dayNumber : Nat
  storeBusy : Bool
  lostEmpty : Bool
  faultCause : Option FaultCause
  further : Bool
  gate : Bool
  queueCount : Nat
  dropped : Bool
  overrun : Bool
  deriving DecidableEq, Repr

/-- What a reply carries after its result code. -/
inductive ReplyContent where
  | nothing
  | identify (r : IdentifyReply)
  /-- R144: the clock after the setting and the records it closed. -/
  | setClock (minute second : Nat) (hour day : Option Nat)
  | holderStatus (r : HolderStatusReply)
  /-- R66. -/
  | submitted (number : Nat) (standing : Standing)
  /-- R83. -/
  | orders (held : Bool) (nextNumber : Nat) (orders : List Order) (ended : List EndRecord)
  /-- R81. -/
  | hold (held : Bool)
  | districtStatus (r : DistrictStatusReply)
  /-- R94. -/
  | stepEntry (entry : Option Step) (marks : StepMarks)
  | summary (s : Summary)
  | stationStatus (r : StationStatusReply)
  /-- R139: the four overflow marks before the clear. -/
  | marks (m0 m1 m2 m3 : Bool)
  /-- R137: the four values as carried and the attempts used. -/
  | points (count pressure travel house attempts : Nat)
  /-- R137. -/
  | failure (k : Option FailureKind)
  | hourRecord (r : HourRecord)
  | dayRecord (r : DayRecord)
  /-- R162: the write position of an EMPTY reply. -/
  | writePosition (n : Nat)
  /-- R163. -/
  | cursor (n : Nat)
  | running (r : RunningReply)
  /-- R196, R197. -/
  | fault (first : Option FirstFault) (further : Bool)
  | yardStatus (r : YardStatusReply)
  /-- R179. -/
  | gate (on : Bool) (count : Nat)
  deriving DecidableEq, Repr

/-- R175: a finished reply. `kind` is the kind of its request. -/
structure Reply where
  kind : Byte
  tag : Byte
  result : Result
  content : ReplyContent
  deriving DecidableEq, Repr

/-! ### Line Interface (chapter 9) -/

/-- R170: the receive framer. COLLECTING keeps the length and the bytes received after it, in order. -/
inductive Framer where
  | hunting
  | length
  | collecting (len : Nat) (kept : List Byte)
  deriving DecidableEq, Repr

/-- R177: the frame being sent: a reply, or a notice with its number and the dropped mark it carries (R178, R180). -/
inductive TxFrame where
  | reply (r : Reply)
  | notice (n : Notice) (number : Nat) (dropped : Bool)
  deriving DecidableEq, Repr

/-- R181, R191: a warm restart that has been asked for: the tag of its RESTART, if any, and whether a reset pulse is
present. -/
structure Restart where
  tag : Option Byte
  pulse : Bool
  deriving DecidableEq, Repr

/-- The state of chapter 9. -/
structure Office where
  speed : OfficeSpeed
  framer : Framer
  outstanding : Nat
  replies : List Reply
  sending : Option TxFrame
  gate : Bool
  queue : List Notice
  dropped : Bool
  overrun : Bool
  noticeNumber : Nat
  restart : Option Restart
  deriving DecidableEq, Repr

/-! ### The controller -/

/-- The controller: everything but the queue of commands. -/
structure Ctl where
  /-- False from a reset pulse of 2 s until the POWER_UP that follows (R191). -/
  powered : Bool
  clock : Clock
  /-- Milliseconds since power-up, the model's own time base for R131. -/
  now : Nat
  baro : Barometer
  holders : PerHolder (Option HolderRec)
  /-- The limit switch inputs of all eight channels. -/
  pins : PerHolder HolderLimits
  makeFlowing : Bool
  makeTimer : Option Nat
  relief : Bool
  seq : Sequencer
  districts : PerDistrict (Option DistrictRec)
  line : Option Exchange
  pass : Option PassSlot
  acc : Accounts
  store : Store
  identity : Identity
  yard : Option YardDef
  faults : FaultLog
  office : Office
  deriving DecidableEq, Repr

/-- Why a command stops the machine. No command of this block does: the spec gives every command an effect, and its
faults are records of the Fault Recorder. -/
inductive Fault where
  /-- Raised by no meaning; it is here so that the type is inhabited. Safe. -/
  | reserved
  deriving DecidableEq, Repr

/-- Why a command is refused. -/
inductive Refusal where
  /-- Raised by an arm of `exec` whose command has no meaning yet (there is none). Safe: the machine stops. -/
  | notModelled (mnemonic : String)
  deriving DecidableEq, Repr

/-- The state: the commands that wait, first in first out, and the controller. -/
structure State where
  pending : List Instr
  ctl : Ctl
  deriving DecidableEq, Repr

/-! ### Reset -/

/-- No mark set. -/
def noMarks : Marks := ⟨false, false, false, false, false⟩

/-- R166: the open hour after power-up. -/
def OpenHour.reset : OpenHour :=
  { number := 1, start := 0, duration := 0, openedEarly := false, clockUnsetSeen := true, silenceSeen := false,
    openingDoubtful := false, saturated := false, newBase := true, make := 0, sendOut := ⟨0, 0, 0⟩, opening := none }

/-- R166: the open day after power-up. -/
def OpenDay.reset : OpenDay :=
  { number := 1, start := 0, duration := 0, hoursClosed := 0, marks := noMarks, make := 0, sendOut := ⟨0, 0, 0⟩,
    opening := none, closing := 0, change := 0 }

/-- R146, R166: the accounts after power-up, where no yard definition is restored. -/
def Accounts.reset : Accounts :=
  { hour := OpenHour.reset, day := OpenDay.reset, hours := [], days := [], hourCursor := 1, dayCursor := 1,
    baselines := ⟨none, none, none⟩, silent := ⟨false, false, false⟩, dayStart := 6 }

/-- R85: the sequencer after power-up; no stock has been given to it. -/
def Sequencer.reset : Sequencer :=
  { orders := [], ended := [], held := false, nextNumber := 1, lastStock := ⟨none, none, none, none⟩ }

/-- R182: the Line Interface after power-up. -/
def Office.reset (speed : OfficeSpeed) : Office :=
  { speed := speed, framer := .hunting, outstanding := 0, replies := [], sending := none, gate := false, queue := [],
    dropped := false, overrun := false, noticeNumber := 0, restart := none }

/-- No record on the lost list. -/
def noRecords : PerRecord Bool :=
  ⟨false, false, ⟨false, false, false, false⟩, ⟨false, false, false⟩⟩

/-- The store with nine erased records and no operation in flight (log 4). -/
def Store.reset : Store :=
  { identity := .erased, yard := .erased, holders := ⟨.erased, .erased, .erased, .erased⟩,
    districts := ⟨.erased, .erased, .erased⟩, lost := noRecords, op := none }

/-- A limit switch pair with neither limit made. -/
def noLimits : HolderLimits := ⟨⟨false, false⟩, ⟨false, false⟩⟩

/-- The controller with every block in its initial condition and nothing defined, over a given store, strap and limits:
what a power-up builds on (R192). -/
def Ctl.blank (store : Store) (speed : OfficeSpeed) (pins : PerHolder HolderLimits) : Ctl :=
  { powered := true
    clock := { minute := 0, second := 0, isSet := false }
    now := 0
    baro := { value := none, lost := false }
    holders := ⟨none, none, none, none⟩
    pins := pins
    makeFlowing := false
    makeTimer := none
    relief := false
    seq := Sequencer.reset
    districts := ⟨none, none, none⟩
    line := none
    pass := none
    acc := Accounts.reset
    store := store
    identity := .unset
    yard := none
    faults := { first := none, further := false, handed := [] }
    office := Office.reset speed }

/-- The controller right after a power-up that found nine erased records (log 4: the store, the strap and the limits
are the model's choice, every other value is the spec's). -/
def Ctl.reset : Ctl := Ctl.blank Store.reset .baud9600 ⟨noLimits, noLimits, noLimits, noLimits⟩

/-- The machine right after reset; no command waits. -/
def State.reset : State := { pending := [], ctl := Ctl.reset }

end Sys2Proof.Machine
end

