-- ==== Sys2Proof/Machine/Ops.lean ====
section
/-! DEFINITION. The shared operations: rounding, reaching a record by index, posting a notice, handing over a fault,
finishing a reply. -/

namespace Sys2Proof.Machine

/-- R1: a non-negative quotient rounded to the nearest integer, halves away from zero. -/
def rounded (n d : Nat) : Nat := (2 * n + d) / (2 * d)

/-! ### Indices -/

/-- Holders are H1..H4. -/
def holderOf : Nat → Option HolderId
  | 1 => some .h1
  | 2 => some .h2
  | 3 => some .h3
  | 4 => some .h4
  | _ => none

/-- Districts are D1..D3. -/
def districtOf : Nat → Option DistrictId
  | 1 => some .d1
  | 2 => some .d2
  | 3 => some .d3
  | _ => none

/-! ### Records by index -/

/-- Replaces the record of a holder. -/
def Ctl.putHolder (c : Ctl) (h : HolderId) (r : Option HolderRec) : Ctl :=
  { c with holders := c.holders.put h r }

/-- Changes the record of a holder where it is defined. -/
def Ctl.modHolder (c : Ctl) (h : HolderId) (f : HolderRec → HolderRec) : Ctl :=
  c.putHolder h ((c.holders.get h).map f)

/-- Replaces the record of a district. -/
def Ctl.putDistrict (c : Ctl) (d : DistrictId) (r : Option DistrictRec) : Ctl :=
  { c with districts := c.districts.put d r }

/-- Changes the record of a district where it is defined. -/
def Ctl.modDistrict (c : Ctl) (d : DistrictId) (f : DistrictRec → DistrictRec) : Ctl :=
  c.putDistrict d ((c.districts.get d).map f)

/-- The holders defined, in index order. -/
def Ctl.definedHolders (c : Ctl) : List HolderId := allHolders.filter fun h => (c.holders.get h).isSome

/-- The districts defined, in index order. -/
def Ctl.definedDistricts (c : Ctl) : List DistrictId := allDistricts.filter fun d => (c.districts.get d).isSome

/-! ### Notices, faults, replies -/

/-- R178 to R180: a posted notice takes the yard minute and the clock-unset mark. A closed gate discards it, a queue of
16 drops it and sets the dropped mark, and otherwise it is appended as the newest. -/
def Ctl.post (c : Ctl) (content : NoticeContent) : Ctl :=
  if c.office.gate then
    if c.office.queue.length < Config.noticeQueueMax then
      { c with office := { c.office with
          queue := c.office.queue ++
            [{ minute := c.clock.minute, clockUnset := !c.clock.isSet, content := content }] } }
    else { c with office := { c.office with dropped := true } }
  else c

/-- A fault handed to the Fault Recorder, which takes it as its own event (R194). DESIGN CHOICE (log 9): that event comes
after the whole command that raised the fault. -/
def Ctl.raise (c : Ctl) (f : FaultReport) : Ctl :=
  { c with faults := { c.faults with handed := c.faults.handed ++ [f] } }

/-- R194, R195: the Fault Recorder takes a fault: it fills an empty record or sets the further-faults mark, and posts a
FAULT notice. -/
def Ctl.takeFault (c : Ctl) (f : FaultReport) : Ctl :=
  match c.faults.first with
  | none =>
    { c with faults := { c.faults with
        first := some { fault := f, minute := c.clock.minute, clockUnset := !c.clock.isSet } } }.post
      (.fault f true c.faults.further)
  | some _ => { c with faults := { c.faults with further := true } }.post (.fault f false true)

/-- R177: a finished reply joins the reply list as its newest. -/
def Ctl.reply (c : Ctl) (kind tag : Byte) (result : Result) (content : ReplyContent) : Ctl :=
  { c with office := { c.office with
      replies := c.office.replies ++ [{ kind := kind, tag := tag, result := result, content := content }] } }

/-- R175: a reply that carries the result code alone. -/
def Ctl.refuse (c : Ctl) (kind tag : Byte) (result : Result) : Ctl := c.reply kind tag result .nothing

/-! ### The yard definition in force -/

/-- R185: the defaults of the yard definition. -/
def YardDef.default : YardDef := { dayStart := 6, pulseWeight := 100, speed := 1200, window := 400, quiet := 10 }

/-- R124, R146, R185: the yard settings in force, the defaults while none is defined. -/
def Ctl.settings (c : Ctl) : YardDef := c.yard.getD YardDef.default

/-- R184: a store operation is in flight. -/
def Ctl.storeBusy (c : Ctl) : Bool := c.store.op.isSome

/-- R184: a store operation begins; the request keeps its tag until its reply is finished (R176). -/
def Ctl.beginStore (c : Ctl) (kind tag : Byte) (work : StoreWork) : Ctl :=
  { c with store := { c.store with op := some { kind := kind, tag := tag, work := work, rollback := false } } }

/-! ### Reservations (R5, R87, R188) -/

/-- R5, R188: the holder is reserved by the operation in flight. SET BANDS reserves none (R34). -/
def Ctl.holderReserved (c : Ctl) (h : HolderId) : Bool :=
  match c.store.op with
  | none => false
  | some op =>
    match op.work with
    | .defineHolder i _ => i == h
    | .removeHolder i => i == h
    | .setBands _ _ => false
    | .defineDistrict _ _ => false
    | .removeDistrict _ => false
    | .defineYard _ => false
    | .setIdentity _ => false
    | .clear => (c.holders.get h).isSome

/-- R87, R188: the district is reserved by the operation in flight. -/
def Ctl.districtReserved (c : Ctl) (d : DistrictId) : Bool :=
  match c.store.op with
  | none => false
  | some op =>
    match op.work with
    | .defineDistrict i _ => i == d
    | .removeDistrict i => i == d
    | .clear => (c.districts.get d).isSome
    | .defineHolder _ _ => false
    | .removeHolder _ => false
    | .setBands _ _ => false
    | .defineYard _ => false
    | .setIdentity _ => false

end Sys2Proof.Machine
end

