-- ==== Sys2Proof/Machine/Gauge.lean ====
section
/-! DEFINITION. Stages 0 to 4 of the gauge sample (chapter 1): conversion, the LOST spell, the crown jump check, lifts
afloat, swept volume, vapour pressure, correction factor, stock and capacity. -/

namespace Sys2Proof.Machine

/-! ### Stage 0 (R10 to R12) -/

/-- R10: a code of 100 or more converted with lo and span, clamped to the range; a code below 100 is LOST. -/
def convert (lo span : Nat) (code : Code) : Option Nat :=
  if code.toNat < 100 then none else some (min (lo + span) (lo + (code.toNat * span + 2047) / 4095))

/-- R10: the gauge pressure, 0..600. -/
def convertPressure (code : Code) : Option Nat := convert 0 600 code

/-- R10: the gas temperature, −100..450. -/
def convertTemperature (code : Code) : Option Int := (convert 0 550 code).map fun n => (n : Int) - 100

/-- R10: the barometer, 9,000..11,000. -/
def convertBarometer (code : Code) : Option Nat := convert 9000 2000 code

/-- An accepted reading: it replaces the value and ends the spell. -/
def Input.accept {α : Type} (a : α) : Input α := { value := some a, lost := false, held := false }

/-- R11: a LOST reading keeps the last accepted value, if there is one (log 10). -/
def Input.lose {α : Type} (i : Input α) : Input α := { i with lost := true, held := i.value.isSome }

/-- R11: an input takes its reading; none is LOST. -/
def Input.take {α : Type} (i : Input α) : Option α → Input α
  | some a => Input.accept a
  | none => i.lose

/-! ### Stage 0a (R13, R14) -/

/-- |a − b|. -/
def distance (a b : Nat) : Nat := max a b - min a b

/-- R13: the most a crown moves between two samples, in mm. -/
def jumpLimit : Nat := 200

/-- What stage 0a makes of a crown reading: the input, the discard run, and the discarded height with the held one
where a run begins (GAUGE JUMP). -/
structure CrownTaken where
  input : Input Nat
  discards : List Nat
  jump : Option (Nat × Nat)
  deriving DecidableEq, Repr

/-- R14: a discarded height considered with the run: accepted by rebase, or added to the run. -/
def crownDiscard (i : Input Nat) (run : List Nat) (h last : Nat) : CrownTaken :=
  match run with
  | [] => ⟨{ i with lost := false, held := true }, [h], some (h, last)⟩
  | [a] => ⟨{ i with lost := false, held := true }, [a, h], none⟩
  | a :: b :: _ =>
    if max (max a b) h - min (min a b) h ≤ jumpLimit then ⟨Input.accept h, [], none⟩
    else ⟨{ i with lost := false, held := true }, [b, h], none⟩

/-- R13: a crown reading against the last accepted height; a LOST reading empties the run. -/
def crownTake (i : Input Nat) (run : List Nat) : Option Nat → CrownTaken
  | none => ⟨i.lose, [], none⟩
  | some h =>
    if i.lost then ⟨Input.accept h, [], none⟩
    else
      match i.value with
      | none => ⟨Input.accept h, [], none⟩
      | some last => if distance h last ≤ jumpLimit then ⟨Input.accept h, [], none⟩ else crownDiscard i run h last

/-! ### Stage 1 (R15, R16) -/

/-- R2: the full travel H_max. -/
def HolderDef.hmax (d : HolderDef) : Nat := (d.lifts.map Lift.travel).sum

/-- R15: the lifts afloat of the lifts that begin at an offset. -/
def afloatFrom (offset h : Nat) : List Lift → Nat
  | [] => 0
  | l :: rest => (if offset < h then 1 else 0) + afloatFrom (offset + l.travel) h rest

/-- R15: the lifts afloat n. -/
def HolderDef.afloat (d : HolderDef) (h : Nat) : Nat := afloatFrom 0 h d.lifts

/-- R16: the swept terms of the lifts that begin at an offset, each floored on its own. -/
def sweptFrom (offset h : Nat) : List Lift → Nat
  | [] => 0
  | l :: rest => l.area * min (h - offset) l.travel / 100 + sweptFrom (offset + l.travel) h rest

/-- R16: the swept volume V_s. -/
def HolderDef.swept (d : HolderDef) (h : Nat) : Nat := d.landedVolume + sweptFrom 0 h d.lifts

/-- R16: the uncorrected capacity V_smax. -/
def HolderDef.vsmax (d : HolderDef) : Nat :=
  d.landedVolume + (d.lifts.map fun l => l.area * l.travel / 100).sum

/-! ### Stages 2 to 4 (R17 to R19) -/

/-- R17: the vapour pressures at −100, −50, .., 450. -/
def vapourTable : List Nat := [29, 42, 61, 87, 123, 170, 234, 317, 424, 562, 738, 958]

/-- R17: the vapour pressure p_w at a gas temperature of −100..450. -/
def vapour (t : Int) : Nat :=
  let above := (t + 100).toNat
  let lower := vapourTable.getD (above / 50) 958
  let upper := vapourTable.getD (above / 50 + 1) 958
  rounded (lower * 50 + (upper - lower) * (above % 50)) 50

/-- R18: the correction factor F. -/
def factorOf (baro pg : Nat) (t : Int) : Nat :=
  rounded ((baro + pg - vapour t) * 28815 * 65536) (9963 * (27315 + 10 * t).toNat)

/-- R19: a volume brought to standard conditions. -/
def corrected (volume factor : Nat) : Nat := rounded (volume * factor) 65536

/-- R9 stages 1 to 4: the figures of a sample. -/
def figuresOf (d : HolderDef) (vsmax h pg : Nat) (t : Int) (baro : Nat) : Figures :=
  let f := factorOf baro pg t
  let s := corrected (d.swept h) f
  let cap := corrected vsmax f
  { h := h, pg := pg, t := t, baro := baro, lifts := d.afloat h, swept := d.swept h, factor := f, stock := s,
    capacity := cap, freeRoom := cap - s }

end Sys2Proof.Machine
end

