-- ==== Sys2Proof/Machine/Wire.lean ====
section
/-! DEFINITION. Bytes on the two serial lines: field encodings (R201) and the check (R202). -/

namespace Sys2Proof.Machine

/-! ### R201: fields, high byte first -/

/-- A natural number in `k` bytes, high byte first. -/
def beBytes : Nat → Nat → List Byte
  | 0, _ => []
  | k + 1, n => beBytes k (n / 256) ++ [BitVec.ofNat 8 n]

def u8 (n : Nat) : List Byte := beBytes 1 n
def u16 (n : Nat) : List Byte := beBytes 2 n
def u24 (n : Nat) : List Byte := beBytes 3 n
def u32 (n : Nat) : List Byte := beBytes 4 n

/-- Two's complement in `k` bytes. -/
def signedBytes (k : Nat) (i : Int) : List Byte := beBytes k (BitVec.ofInt (8 * k) i).toNat

def s16 (i : Int) : List Byte := signedBytes 2 i
def s32 (i : Int) : List Byte := signedBytes 4 i
def s64 (i : Int) : List Byte := signedBytes 8 i

/-- R201: the no-value codes. -/
def optU8 : Option Nat → List Byte
  | some n => u8 n
  | none => u8 0xFF

def optU16 : Option Nat → List Byte
  | some n => u16 n
  | none => u16 0xFFFF

def optU32 : Option Nat → List Byte
  | some n => u32 n
  | none => u32 0xFFFFFFFF

def optS32 : Option Int → List Byte
  | some i => s32 i
  | none => u32 0x80000000

/-- A yes-or-no field: 0 for no, 1 for yes. -/
def yesNo (b : Bool) : List Byte := u8 b.toNat

/-- A set: member k of the list in bit k. -/
def setBits : List Bool → Nat
  | [] => 0
  | b :: rest => b.toNat + 2 * setBits rest

/-- Text: a u8 count and that many characters. -/
def text (cs : List Byte) : List Byte := u8 cs.length ++ cs

/-! ### Reading fields of a request body -/

/-- The number a byte list spells, high byte first. -/
def beNat (bs : List Byte) : Nat := bs.foldl (fun n b => n * 256 + b.toNat) 0

/-- The field of `len` bytes at an offset of a body. -/
def field (body : List Byte) (offset len : Nat) : Nat := beNat ((body.drop offset).take len)

/-- Member k of a set byte. -/
def member (set k : Nat) : Bool := (set / 2 ^ k) % 2 == 1

/-! ### R202: the check -/

/-- One message bit taken into the register. -/
def checkBit (reg : Check) (bit : Bool) : Check :=
  if reg.msb != bit then (reg <<< 1) ^^^ 0x1021#16 else reg <<< 1

/-- One byte, its bits from the most significant to the least. -/
def checkByte (reg : Check) (b : Byte) : Check :=
  [7, 6, 5, 4, 3, 2, 1, 0].foldl (fun r k => checkBit r (b.getLsbD k)) reg

/-- The check over bytes in the order sent, from a register of FFFFh. -/
def checkOf (bytes : List Byte) : Check := bytes.foldl checkByte 0xFFFF#16

/-- The check's two bytes, high byte first. -/
def checkBytes (bytes : List Byte) : List Byte := u16 (checkOf bytes).toNat

/-! ### R200, R208: frames -/

/-- R200: an office frame of a kind, a tag and a body. -/
def officeFrame (kind tag : Byte) (body : List Byte) : List Byte :=
  let covered := u8 (body.length + 2) ++ [kind, tag] ++ body
  0xD2#8 :: covered ++ checkBytes covered

/-- R208: a telemetry frame of an address, a function code and a body. -/
def telemetryFrame (address code : Nat) (body : List Byte) : List Byte :=
  let covered := u8 address ++ u8 code ++ u8 body.length ++ body
  0xA6#8 :: covered ++ checkBytes covered

end Sys2Proof.Machine
end

