-- ==== Sys2Proof/Machine/Operands.lean ====
section
/-! DEFINITION. The operands of every request, read from its body (R203, R204) and held to the lengths and ranges of
the rule of its owner. A parser answers the operands, or the result of the first check that fails. -/

namespace Sys2Proof.Machine

/-- A check: the result it answers where the condition does not hold. -/
def checkThat (cond : Bool) (failure : Result) : Except Result Unit :=
  if cond then .ok () else .error failure

/-- An operand that a range check must find. -/
def require {α : Type} (o : Option α) (failure : Result) : Except Result α :=
  match o with
  | some a => .ok a
  | none => .error failure

/-- A value within a range. -/
def within (lo hi n : Nat) : Bool := lo ≤ n && n ≤ hi

/-- An optional value within a range where it is present. -/
def withinIfPresent (lo hi : Nat) : Option Nat → Bool
  | some n => within lo hi n
  | none => true

/-! ### R203: the body lengths each kind admits -/

/-- R203: the least and the greatest body length of an assigned kind. -/
def admittedLengths (kind : Nat) : Option (Nat × Nat) :=
  match kind with
  | 0x01 => some (0, 0)
  | 0x02 => some (1, 16)
  | 0x03 => some (1, 9)
  | 0x04 => some (0, 0)
  | 0x05 => some (0, 0)
  | 0x06 => some (7, 7)
  | 0x08 => some (21, 59)
  | 0x09 => some (1, 1)
  | 0x0A => some (3, 11)
  | 0x0B => some (1, 1)
  | 0x10 => some (4, 9)
  | 0x11 => some (2, 2)
  | 0x12 => some (0, 0)
  | 0x13 => some (0, 0)
  | 0x14 => some (0, 0)
  | 0x18 => some (12, 15)
  | 0x19 => some (1, 1)
  | 0x1A => some (1, 1)
  | 0x1B => some (8, 8)
  | 0x1C => some (2, 2)
  | 0x1D => some (2, 2)
  | 0x1E => some (1, 1)
  | 0x1F => some (1, 1)
  | 0x20 => some (1, 1)
  | 0x21 => some (3, 3)
  | 0x24 => some (1, 1)
  | 0x25 => some (1, 1)
  | 0x26 => some (1, 1)
  | 0x28 => some (0, 0)
  | 0x29 => some (0, 0)
  | 0x2A => some (0, 0)
  | 0x2B => some (0, 0)
  | 0x2C => some (0, 0)
  | 0x30 => some (0, 0)
  | 0x31 => some (0, 0)
  | 0x32 => some (0, 0)
  | 0x33 => some (0, 0)
  | 0x34 => some (0, 0)
  | _ => none

/-- R173, R203: the kind admits a body of this length. -/
def lengthAdmitted (kind : Nat) (body : List Byte) : Bool :=
  match admittedLengths kind with
  | some (least, greatest) => within least greatest body.length
  | none => false

/-! ### R204: optional parts -/

/-- The bytes of the optional fields a presence set names, the first of the widths being member k. -/
def presentBytes (set k : Nat) : List Nat → Nat
  | [] => 0
  | w :: rest => (if member set k then w else 0) + presentBytes set (k + 1) rest

/-- The optional field that is member k, where the optional fields begin at a base. -/
def optionalField (body : List Byte) (base set : Nat) (widths : List Nat) (k : Nat) : Option Nat :=
  if member set k then some (field body (base + presentBytes set 0 (widths.take k)) (widths.getD k 0)) else none

/-- R201: no bit of the set lies above its members. -/
def setFits (set members : Nat) : Bool := set < 2 ^ members

/-- R201: a yes-or-no byte or a code of a two-valued enumeration. -/
def yesNoFits (n : Nat) : Bool := n ≤ 1

/-- R2: the two codes of a band mode. -/
def bandModeOf : Nat → BandMode
  | 0 => .follow
  | _ => .latch

/-! ### Indices -/

/-- A request that names a holder alone (R7, R21). -/
def parseHolder (body : List Byte) : Except Result HolderId := require (holderOf (field body 0 1)) .outOfRange

/-- A request that names a district alone (R89, R92, R121, R138). -/
def parseDistrict (body : List Byte) : Except Result DistrictId := require (districtOf (field body 0 1)) .outOfRange

/-! ### DEFINE HOLDER (R2 to R4, R204) and SET BANDS (R33) -/

/-- R204: the widths of the optional fields of DEFINE HOLDER. -/
def holderWidths : List Nat := [2, 2, 1, 4, 4, 1]

/-- R204: the lifts of a body that states n of them. -/
def parseLifts (body : List Byte) : Nat → Nat → List Lift
  | 0, _ => []
  | n + 1, offset =>
    { area := field body offset 4, travel := field body (offset + 4) 2 } :: parseLifts body n (offset + 6)

/-- R204: n expected pressures. -/
def parseExpected (body : List Byte) : Nat → Nat → List Nat
  | 0, _ => []
  | n + 1, offset => field body offset 2 :: parseExpected body n (offset + 2)

/-- R3: the pressures are nondecreasing. -/
def nondecreasing : List Nat → Bool
  | [] => true
  | a :: rest => rest.all (fun b => a ≤ b) && nondecreasing rest

/-- R3: a band offset left out, one eighth of the uncorrected capacity, floored. -/
def defaultOffset (vsmax : Nat) : Nat := vsmax / 8

/-- R2: the area and the travel of a lift lie in their ranges. -/
def Lift.inRange (l : Lift) : Bool := within 1000 200000 l.area && within 1000 15000 l.travel

/-- R2: every field of a holder definition lies in its range, the band offsets apart. -/
def HolderDef.fieldsInRange (d : HolderDef) : Bool :=
  within 1 4 d.lifts.length && d.lifts.all Lift.inRange && d.landedVolume ≤ 2000000 &&
  d.expected.all (within 10 400) && d.span ≤ 40000 && within 10 600 d.inletTime && within 10 600 d.outletTime &&
  within 100 2000 d.landingMargin && within 100 2000 d.topMargin && within 5 100 d.tolerance

/-- R3: the four consistency conditions. -/
def HolderDef.consistent (d : HolderDef) : Bool :=
  d.hmax ≤ 40000 && d.hmax ≤ d.span && nondecreasing d.expected && d.landingMargin + d.topMargin + 200 < d.hmax

/-- R204: the holder definition a body spells, defaults applied. -/
def readHolderDef (body : List Byte) : HolderDef :=
  let count := field body 1 1
  let after := 2 + 8 * count
  let set := field body (after + 10) 1
  let opt := optionalField body (after + 11) set holderWidths
  let base : HolderDef :=
    { lifts := parseLifts body count 2
      expected := parseExpected body count (2 + 6 * count)
      landedVolume := field body after 4
      span := field body (after + 4) 2
      inletTime := field body (after + 6) 2
      outletTime := field body (after + 8) 2
      landingMargin := (opt 0).getD 300
      topMargin := (opt 1).getD 300
      tolerance := (opt 2).getD 20
      lowOffset := 0
      highOffset := 0
      mode := bandModeOf ((opt 5).getD 0) }
  { base with lowOffset := (opt 3).getD (defaultOffset base.vsmax)
              highOffset := (opt 4).getD (defaultOffset base.vsmax) }

/-- R4: the checks on the body of DEFINE HOLDER, in their order. -/
def parseDefineHolder (body : List Byte) : Except Result (HolderId × HolderDef) := do
  let count := field body 1 1
  let after := 2 + 8 * count
  let set := field body (after + 10) 1
  checkThat (body.length == 13 + 8 * count + presentBytes set 0 holderWidths) .badLength
  let h ← require (holderOf (field body 0 1)) .outOfRange
  let opt := optionalField body (after + 11) set holderWidths
  let d := readHolderDef body
  checkThat (setFits set 6 && withinIfPresent 0 200000000 (opt 3) && withinIfPresent 0 200000000 (opt 4) &&
    withinIfPresent 0 1 (opt 5) && d.fieldsInRange) .outOfRange
  checkThat d.consistent .outOfRange
  return (h, d)

/-- The operands of SET BANDS. -/
structure BandsOperands where
  holder : HolderId
  low : Option Nat
  high : Option Nat
  mode : BandMode
  deriving DecidableEq, Repr

/-- R33, R204: the checks on the body of SET BANDS, in their order. -/
def parseSetBands (body : List Byte) : Except Result BandsOperands := do
  let set := field body 1 1
  let present := presentBytes set 0 [4, 4]
  checkThat (body.length == 3 + present) .badLength
  let h ← require (holderOf (field body 0 1)) .outOfRange
  let low := optionalField body 2 set [4, 4] 0
  let high := optionalField body 2 set [4, 4] 1
  let mode := field body (2 + present) 1
  checkThat (setFits set 2 && withinIfPresent 0 200000000 low && withinIfPresent 0 200000000 high &&
    yesNoFits mode) .outOfRange
  return { holder := h, low := low, high := high, mode := bandModeOf mode }

/-! ### SUBMIT ORDER (R66) and CANCEL ORDER (R79) -/

/-- The operands of SUBMIT ORDER. -/
structure OrderOperands where
  kind : OrderKind
  holder : HolderId
  second : Option HolderId
  target : Option Nat
  deadline : Nat
  endAction : Option EndAction
  deriving DecidableEq, Repr

/-- R204: the code of an order kind. -/
def orderKindOf : Nat → Option OrderKind
  | 0 => some .fill
  | 1 => some .draw
  | 2 => some .changeover
  | 3 => some .isolate
  | _ => none

/-- R204: the code of an end action. -/
def endActionOf : Nat → Option EndAction
  | 0 => some .close
  | 1 => some .leave
  | _ => none

/-- R204: the body lengths of an order kind. -/
def OrderKind.lengthFits (k : OrderKind) (n : Nat) : Bool :=
  match k with
  | .fill => n == 5 || n == 9
  | .draw => n == 5 || n == 9
  | .changeover => n == 5
  | .isolate => n == 4

/-- R66: the end action and target of a FILL or DRAW. -/
def parseFlow (body : List Byte) : Except Result (EndAction × Option Nat) := do
  let action ← require (endActionOf (field body 4 1)) .outOfRange
  let target := if body.length == 9 then some (field body 5 4) else none
  checkThat (withinIfPresent 0 200000000 target) .outOfRange
  return (action, target)

/-- R66: the checks on the body of SUBMIT ORDER, in their order. -/
def parseSubmitOrder (body : List Byte) : Except Result OrderOperands := do
  let kind ← require (orderKindOf (field body 0 1)) .outOfRange
  checkThat (kind.lengthFits body.length) .badLength
  let h ← require (holderOf (field body 1 1)) .outOfRange
  let deadline := field body 2 2
  checkThat (within 1 720 deadline) .outOfRange
  let plain : OrderOperands :=
    { kind := kind, holder := h, second := none, target := none, deadline := deadline, endAction := none }
  match kind with
  | .fill =>
    let (a, t) ← parseFlow body
    return { plain with target := t, endAction := some a }
  | .draw =>
    let (a, t) ← parseFlow body
    return { plain with target := t, endAction := some a }
  | .changeover =>
    let b ← require (holderOf (field body 4 1)) .outOfRange
    checkThat (b != h) .outOfRange
    return { plain with second := some b }
  | .isolate => return plain

/-- R79: the number of CANCEL ORDER. -/
def parseCancelOrder (body : List Byte) : Except Result Nat := do
  let n := field body 0 2
  checkThat (within 1 Config.orderNumberMax n) .outOfRange
  return n

/-! ### DEFINE DISTRICT (R86) -/

/-- R86, R185: the pulse weights. -/
def weightFits (n : Nat) : Bool := n == 1 || n == 10 || n == 100 || n == 1000

/-- R86: every field of a district definition lies in its range. -/
def DistrictDef.fieldsInRange (d : DistrictDef) : Bool :=
  within 1 31 d.address && within 50 3000 d.minimum && within 50 3000 d.maximum && d.lossAllowance ≤ 200 &&
  d.boosterLead ≤ 30 && within 5 100 d.tolerance && weightFits d.pulseWeight && within 10 600 d.pollInterval

/-- R204: the district definition a body spells, defaults applied. -/
def readDistrictDef (body : List Byte) : DistrictDef :=
  let opt := optionalField body 12 (field body 11 1) [1, 2]
  { address := field body 1 1
    minimum := field body 2 2
    maximum := field body 4 2
    lossAllowance := field body 6 1
    booster := field body 7 1 == 1
    boosterLead := field body 8 1
    tolerance := (opt 0).getD 15
    pulseWeight := field body 9 2
    pollInterval := (opt 1).getD 60 }

/-- R86: the checks on the body of DEFINE DISTRICT, in their order. -/
def parseDefineDistrict (body : List Byte) : Except Result (DistrictId × DistrictDef) := do
  let set := field body 11 1
  checkThat (body.length == 12 + presentBytes set 0 [1, 2]) .badLength
  let i ← require (districtOf (field body 0 1)) .outOfRange
  let d := readDistrictDef body
  checkThat (setFits set 2 && yesNoFits (field body 7 1) && d.fieldsInRange) .outOfRange
  checkThat (d.minimum < d.maximum) .outOfRange
  return (i, d)

/-! ### Programme requests (R92) -/

/-- The operands of WRITE STEP. -/
structure WriteStepOperands where
  district : DistrictId
  index : Nat
  entry : Step
  deriving DecidableEq, Repr

/-- R91: a written entry's fields lie in their ranges. -/
def Step.inRange (s : Step) : Bool := s.target ≤ 3000 && s.ramp ≤ 100 && within 1 1440 s.hold

/-- R207: the step entry of 6 bytes at an offset. -/
def readStepEntry (body : List Byte) (offset : Nat) : Step :=
  let flags := field body (offset + 5) 1
  { target := field body offset 2
    ramp := field body (offset + 2) 1
    hold := field body (offset + 3) 2
    report := member flags 0
    boost := member flags 1 }

/-- R92, R93: the operands of WRITE STEP. -/
def parseWriteStep (body : List Byte) : Except Result WriteStepOperands := do
  let d ← parseDistrict body
  let i := field body 1 1
  let e := readStepEntry body 2
  checkThat (i < Config.ringSize && e.inRange && setFits (field body 7 1) 2) .outOfRange
  return { district := d, index := i, entry := e }

/-- R92: a district and a step index (READ STEP, SET LAST STEP). -/
def parseStepIndex (body : List Byte) : Except Result (DistrictId × Nat) := do
  let d ← parseDistrict body
  let i := field body 1 1
  checkThat (i < Config.ringSize) .outOfRange
  return (d, i)

/-- R92, R96: the district, the repeat flag and the repeat start of SET REPEAT. DESIGN CHOICE: the flag comes before the
repeat start, as R96 names them (log 56), and is a yes-or-no byte, 1 for on (log 49). -/
def parseSetRepeat (body : List Byte) : Except Result (DistrictId × Bool × Nat) := do
  let d ← parseDistrict body
  let flag := field body 1 1
  let rs := field body 2 1
  checkThat (yesNoFits flag && rs < Config.ringSize) .outOfRange
  return (d, flag == 1, rs)

/-! ### STATION PASS (R136) -/

/-- R136: the address of STATION PASS. -/
def parseStationPass (body : List Byte) : Except Result Nat := do
  let a := field body 0 1
  checkThat (within 1 31 a) .outOfRange
  return a

/-! ### SET CLOCK (R143, R144) -/

/-- The operands of SET CLOCK. -/
structure CalendarTime where
  year : Nat
  month : Nat
  day : Nat
  hour : Nat
  minute : Nat
  second : Nat
  deriving DecidableEq, Repr

/-- R143: every year of 2000 to 2099 that is divisible by 4 has 366 days. -/
def leapYear (year : Nat) : Bool := year % 4 == 0

/-- R144: the length of a month in a year. -/
def monthLength (year month : Nat) : Nat :=
  match month with
  | 1 => 31
  | 2 => if leapYear year then 29 else 28
  | 3 => 31
  | 4 => 30
  | 5 => 31
  | 6 => 30
  | 7 => 31
  | 8 => 31
  | 9 => 30
  | 10 => 31
  | 11 => 30
  | 12 => 31
  | _ => 0

/-- R144: the time lies in its ranges. -/
def CalendarTime.valid (t : CalendarTime) : Bool :=
  within 2000 2099 t.year && within 1 12 t.month && within 1 (monthLength t.year t.month) t.day && t.hour ≤ 23 &&
  t.minute ≤ 59 && t.second ≤ 59

/-- The days of the months 1..m of a year. -/
def daysOfMonths (year : Nat) : Nat → Nat
  | 0 => 0
  | m + 1 => daysOfMonths year m + monthLength year (m + 1)

/-- The days from 1 January 2000 to 1 January of a year of 2000..2099. -/
def daysBeforeYear (year : Nat) : Nat := (year - 2000) * 365 + (year - 2000 + 3) / 4

/-- R143: the yard minute of a time, counted from 00:00 on 1 January 2000. -/
def CalendarTime.yardMinute (t : CalendarTime) : Nat :=
  (daysBeforeYear t.year + daysOfMonths t.year (t.month - 1) + (t.day - 1)) * 1440 + t.hour * 60 + t.minute

/-- R144: the operands of SET CLOCK. -/
def parseSetClock (body : List Byte) : Except Result CalendarTime := do
  let t : CalendarTime :=
    { year := field body 0 2, month := field body 2 1, day := field body 3 1, hour := field body 4 1
      minute := field body 5 1, second := field body 6 1 }
  checkThat t.valid .outOfRange
  return t

/-! ### DEFINE YARD (R185) and SET WORKS IDENTITY (R186) -/

/-- R204: the widths of the optional fields of DEFINE YARD. -/
def yardWidths : List Nat := [1, 2, 2, 2, 1]

/-- R185: the checks on the body of DEFINE YARD, in their order, and the defaults. -/
def parseDefineYard (body : List Byte) : Except Result YardDef := do
  let set := field body 0 1
  checkThat (body.length == 1 + presentBytes set 0 yardWidths) .badLength
  let opt := optionalField body 1 set yardWidths
  let y : YardDef :=
    { dayStart := (opt 0).getD 6, pulseWeight := (opt 1).getD 100, speed := (opt 2).getD 1200
      window := (opt 3).getD 400, quiet := (opt 4).getD 10 }
  checkThat (setFits set 5 && y.dayStart ≤ 23 && weightFits y.pulseWeight && (y.speed == 1200 || y.speed == 2400) &&
    within 100 2000 y.window && y.quiet ≤ 50) .outOfRange
  return y

/-- R186: the checks on the body of SET WORKS IDENTITY, in their order. -/
def parseIdentity (body : List Byte) : Except Result (List Byte) := do
  checkThat (within 1 16 body.length) .badLength
  checkThat (body.all fun b => within 0x20 0x7E b.toNat) .outOfRange
  return body

end Sys2Proof.Machine
end

