-- ==== Sys2Proof/Machine/Flags.lean ====
section
/-! DEFINITION. Every flag and mark the Stock Unit computes: Landed, Top, the two bands, the pressure check and the
suspect reasons (chapter 2, stage 5 steps 1 to 4). -/

namespace Sys2Proof.Machine

/-- All four flags clear. -/
def Flags.clear : Flags := ⟨false, false, false, false⟩

/-- No reason present. -/
def Reasons.empty : Reasons := ⟨false, false, false⟩

/-- R41: a reason is present. -/
def Reasons.any (r : Reasons) : Bool := r.gaugeHeld || r.barometerHeld || r.pressureDisagree

/-- R25, R26: the hysteresis of the Landed and Top flags, in mm. -/
def flagHysteresis : Nat := 100

/-- R25: the Landed flag after a sample at crown height h. -/
def landedAfter (margin h : Nat) (before : Bool) : Bool :=
  if h ≤ margin then true else if h ≤ margin + flagHysteresis then before else false

/-- R26: the Top flag after a sample at crown height h. -/
def topAfter (hmax margin h : Nat) (before : Bool) : Bool :=
  if hmax ≤ h + margin then true else if hmax ≤ h + margin + flagHysteresis then before else false

/-- R30, R31: a band flag after a sample: its condition in FOLLOW mode; in LATCH mode kept set until the holder is
connected in the direction that moves it away from its band. -/
def bandAfter (mode : BandMode) (holds away before : Bool) : Bool :=
  match mode with
  | .follow => holds
  | .latch => if holds then true else if away then false else before

/-- R31: FILLING or FLOATING moves a holder away from Landing-near. -/
def ConnState.fills : ConnState → Bool
  | .filling => true
  | .floating => true
  | .isolated => false
  | .drawing => false

/-- R31: DRAWING or FLOATING moves a holder away from Top-near. -/
def ConnState.draws : ConnState → Bool
  | .drawing => true
  | .floating => true
  | .isolated => false
  | .filling => false

/-- Stage 5 steps 1 and 2 (R25 to R31): the four flags after a sample. -/
def flagsAfter (d : HolderDef) (conn : ConnState) (f : Figures) (before : Flags) : Flags :=
  { landed := landedAfter d.landingMargin f.h before.landed
    top := topAfter d.hmax d.topMargin f.h before.top
    landingNear := bandAfter d.mode (f.stock ≤ d.lowOffset) conn.fills before.landingNear
    topNear := bandAfter d.mode (f.freeRoom ≤ d.highOffset) conn.draws before.topNear }

/-- R35: the set of flags that changed. -/
def flagsChanged (before after : Flags) : Flags :=
  { landed := before.landed != after.landed
    top := before.top != after.top
    landingNear := before.landingNear != after.landingNear
    topNear := before.topNear != after.topNear }

/-- A flag of the set is set. -/
def Flags.any (f : Flags) : Bool := f.landed || f.top || f.landingNear || f.topNear

/-! ### The pressure check (R36 to R39) -/

/-- R36: half the width of the cupping zone, in mm. -/
def cuppingHalf : Nat := 150

/-- R36: h is outside the cupping zone of every boundary offset_k, k ≥ 2, of the lifts that begin at an offset. -/
def outsideCuppingFrom (offset h : Nat) : List Lift → Bool
  | [] => true
  | l :: rest =>
    match rest with
    | [] => true
    | _ :: _ => distance h (offset + l.travel) > cuppingHalf && outsideCuppingFrom (offset + l.travel) h rest

/-- R36: a checked sample. -/
def checkedSample (d : HolderDef) (f : Figures) (crownAccepted pressureAccepted : Bool) : Bool :=
  f.lifts ≥ 1 && f.h > d.landingMargin && outsideCuppingFrom 0 f.h d.lifts && pressureAccepted && crownAccepted

/-- R37: the expected pressure P_exp[n]. -/
def HolderDef.expectedAt (d : HolderDef) (n : Nat) : Nat := d.expected.getD (n - 1) 0

/-- R37: the sample disagrees. -/
def disagrees (d : HolderDef) (f : Figures) : Bool := distance f.pg (d.expectedAt f.lifts) > d.tolerance

/-- What the pressure check leaves: the two counters, whether the holder has PRESSURE DISAGREE, and whether it was gained
at this sample. -/
structure CheckResult where
  disagreeCount : Nat
  agreeCount : Nat
  reason : Bool
  gained : Bool
  deriving DecidableEq, Repr

/-- R37 to R39: the pressure check of a sample; a sample that is not checked changes nothing. -/
def pressureCheck (checked disagree : Bool) (dis agr : Nat) (had : Bool) : CheckResult :=
  if checked then
    if disagree then
      let n := min (dis + 1) Config.checkCountMax
      let gained := dis < Config.checkCountMax && n == Config.checkCountMax && !had
      { disagreeCount := n, agreeCount := 0, reason := had || gained, gained := gained }
    else
      let n := min (agr + 1) Config.checkCountMax
      let removed := agr < Config.checkCountMax && n == Config.checkCountMax
      { disagreeCount := 0, agreeCount := n, reason := had && !removed, gained := false }
  else { disagreeCount := dis, agreeCount := agr, reason := had, gained := false }

end Sys2Proof.Machine
end

