-- ==== Sys2Proof/Machine/Valves.lean ====
section
/-! DEFINITION. The valve records and their commands (chapter 3, R44 to R54, R59): creation, the taking of a command,
connection states, interlocks and VALVE notices. -/

namespace Sys2Proof.Machine

/-! ### Views of a record -/

/-- R44: the open drive is on while OPENING, the close drive while CLOSING, and both are off in every other state. -/
def ValveRec.drive (v : ValveRec) : Drive :=
  match v.state with
  | .opening => .openDrive
  | .closing => .closeDrive
  | .closed => .off
  | .opened => .off
  | .stuck => .off
  | .disagree => .off
  | .unknown => .off

/-- R51: commanded OPEN; NONE counts as not OPEN. -/
def ValveRec.commandedOpen (v : ValveRec) : Bool := v.commanded == some .opened

/-- The valve is in OPENING or CLOSING. -/
def ValveRec.travelling (v : ValveRec) : Bool := v.state == .opening || v.state == .closing

/-- One of the two valves of a holder. -/
def HolderRec.valve (r : HolderRec) : Side → ValveRec
  | .inlet => r.inlet
  | .outlet => r.outlet

/-- Changes one of the two valves of a holder. -/
def HolderRec.putValve (r : HolderRec) (side : Side) (v : ValveRec) : HolderRec :=
  match side with
  | .inlet => { r with inlet := v }
  | .outlet => { r with outlet := v }

/-- R51: the connection state derived from two commanded positions. -/
def connOf (inletOpen outletOpen : Bool) : ConnState :=
  match inletOpen, outletOpen with
  | false, false => .isolated
  | true, false => .filling
  | false, true => .drawing
  | true, true => .floating

/-- R51: the connection state of a holder. -/
def HolderRec.connection (r : HolderRec) : ConnState := connOf r.inlet.commandedOpen r.outlet.commandedOpen

/-- R32, R51: the connection state is reported to the Stock Unit, which holds it. -/
def HolderRec.report (r : HolderRec) : HolderRec := { r with conn := r.connection }

/-- A defined holder's valve satisfies a test. -/
def Ctl.valveIs (c : Ctl) (h : HolderId) (side : Side) (test : ValveRec → Bool) : Bool :=
  match c.holders.get h with
  | some r => test (r.valve side)
  | none => false

/-- R54, R55, R56: a valve of this side of some defined holder is commanded OPEN. -/
def Ctl.anyCommandedOpen (c : Ctl) (side : Side) : Bool :=
  allHolders.any fun h => c.valveIs h side ValveRec.commandedOpen

/-- R54: a valve of this side of some other defined holder is commanded OPEN. -/
def Ctl.otherCommandedOpen (c : Ctl) (h : HolderId) (side : Side) : Bool :=
  allHolders.any fun i => i != h && c.valveIs i side ValveRec.commandedOpen

/-! ### Creation (R45) -/

/-- R45: the travel time of a side in a definition. -/
def HolderDef.travelTime (d : HolderDef) : Side → Nat
  | .inlet => d.inletTime
  | .outlet => d.outletTime

/-- The limits of one valve of a channel. -/
def channelValve (l : HolderLimits) : Side → ValveLimits
  | .inlet => l.inlet
  | .outlet => l.outlet

/-- R45: the state, and the commanded position, a valve record is created with from the limits read. -/
def createdState (l : ValveLimits) : ValveState × Option Position :=
  match l.openMade, l.closedMade with
  | true, false => (.opened, some .opened)
  | false, true => (.closed, some .closed)
  | true, true => (.disagree, none)
  | false, false => (.unknown, none)

/-- R45: a valve record as created. -/
def createdValve (l : ValveLimits) (travelTime : Nat) : ValveRec :=
  { commanded := (createdState l).2, source := .restored, state := (createdState l).1, limits := l,
    travelTime := travelTime, timeout := none, timeoutLength := 0 }

/-! ### Notices and faults (R59, section 11.1) -/

/-- R59: the content of a VALVE notice for a valve of a holder record as it stands. -/
def valveContent (h : HolderId) (side : Side) (event : ValveEvent) (r : HolderRec) (relief changed : Bool) :
    NoticeContent :=
  let v := r.valve side
  .valve { holder := h, side := side, event := event, state := v.state, commanded := v.commanded, source := v.source,
           limits := v.limits, conn := r.connection, relief := relief, reliefChanged := changed }

/-- R59: a VALVE notice of the valve as it stands. -/
def Ctl.valveNotice (c : Ctl) (h : HolderId) (side : Side) (event : ValveEvent) (changed : Bool) : Ctl :=
  match c.holders.get h with
  | some r => c.post (valveContent h side event r c.relief changed)
  | none => c

/-- Section 11.1: VALVE DISAGREE, with the two limit readings as details. -/
def disagreeFault (h : HolderId) (side : Side) (l : ValveLimits) : FaultReport :=
  { cause := .valveDisagree, object := .valve h side, detail1 := some l.openMade.toNat,
    detail2 := some l.closedMade.toNat }

/-- The code of a commanded position as a detail (R201: OPEN 0, CLOSED 1). -/
def positionCode : Position → Nat
  | .opened => 0
  | .closed => 1

/-- Section 11.1: VALVE STUCK, with the commanded position and the timeout in seconds as details. -/
def stuckFault (h : HolderId) (side : Side) (v : ValveRec) : FaultReport :=
  { cause := .valveStuck, object := .valve h side, detail1 := v.commanded.map fun p => (positionCode p : Int),
    detail2 := some v.timeoutLength }

/-! ### Taking a command (R46, R47) -/

/-- R47: the travel timeout, floor(3 × travel time / 2) seconds. -/
def travelTimeout (travelTime : Nat) : Nat := 3 * travelTime / 2

/-- R47: the valve enters OPENING or CLOSING with a timeout of full length. -/
def ValveRec.startTravel (v : ValveRec) (state : ValveState) : ValveRec :=
  { v with state := state, timeout := some (travelTimeout v.travelTime), timeoutLength := travelTimeout v.travelTime }

/-- R46: what a command does to the state of a valve, and the event where the state changes. -/
def commandEffect (before : ValveState) (p : Position) : Option (ValveState × ValveEvent) :=
  match p, before with
  | .opened, .closed => some (.opening, .moving)
  | .opened, .opening => none
  | .opened, .opened => none
  | .opened, .closing => some (.opening, .reversed)
  | .opened, .stuck => some (.opening, .moving)
  | .opened, .disagree => some (.opening, .moving)
  | .opened, .unknown => some (.opening, .moving)
  | .closed, .closed => none
  | .closed, .opening => some (.closing, .reversed)
  | .closed, .opened => some (.closing, .moving)
  | .closed, .closing => none
  | .closed, .stuck => some (.closing, .moving)
  | .closed, .disagree => some (.closing, .moving)
  | .closed, .unknown => some (.closing, .moving)

/-- R46, R47: a valve takes a command from a source. -/
def ValveRec.take (v : ValveRec) (p : Position) (src : Source) : ValveRec × Option ValveEvent :=
  let v' := { v with commanded := some p, source := src }
  match commandEffect v.state p with
  | some (st, ev) => (v'.startTravel st, some ev)
  | none => (v', none)

/-- R46, R51: a valve of a holder takes a command, and the connection state is reported. -/
def HolderRec.take (r : HolderRec) (side : Side) (p : Position) (src : Source) : HolderRec × Option ValveEvent :=
  let (v, ev) := (r.valve side).take p src
  ((r.putValve side v).report, ev)

/-! ### Commands of the Order Sequencer (R53, R54) -/

/-- R53: the answer to a valve command. -/
inductive Answer where
  | accepted
  | notDefined
  | interlock (which : Interlock)
  deriving DecidableEq, Repr

/-- R54: some district programme is RUNNING or END-HOLD. -/
def Ctl.anyProgrammeRuns (c : Ctl) : Bool :=
  allDistricts.any fun d =>
    match c.districts.get d with
    | some r => r.prog.state == .running || r.prog.state == .endHold
    | none => false

/-- R53, R54: a command of the sequencer judged. -/
def Ctl.judge (c : Ctl) (h : HolderId) (side : Side) (p : Position) : Answer :=
  match c.holders.get h with
  | none => .notDefined
  | some r =>
    match p, side with
    | .opened, .outlet => if r.flags.landed then .interlock .landed else .accepted
    | .opened, .inlet => if r.flags.top then .interlock .top else .accepted
    | .closed, .inlet =>
      if r.inlet.commandedOpen && !c.otherCommandedOpen h .inlet && c.makeFlowing then .interlock .lastInlet
      else .accepted
    | .closed, .outlet =>
      if r.outlet.commandedOpen && !c.otherCommandedOpen h .outlet && c.anyProgrammeRuns then .interlock .lastOutlet
      else .accepted

/-- R46, R51, R59: the valve takes an accepted command of an order; a change of state posts a VALVE notice. -/
def Ctl.takeOrderCommand (c : Ctl) (n : Nat) (h : HolderId) (side : Side) (p : Position) : Ctl :=
  match c.holders.get h with
  | none => c
  | some r =>
    let (r', ev) := r.take side p (.order n)
    let c' := c.putHolder h (some r')
    match ev with
    | some e => c'.valveNotice h side e false
    | none => c'

/-- R53: a valve command of order n: judged at once, and taken by the valve if accepted. -/
def Ctl.orderCommand (c : Ctl) (n : Nat) (h : HolderId) (side : Side) (p : Position) : Ctl × Answer :=
  match c.judge h side p with
  | .accepted => (c.takeOrderCommand n h side p, .accepted)
  | .notDefined => (c, .notDefined)
  | .interlock w => (c, .interlock w)

end Sys2Proof.Machine
end

