-- ==== Sys2Proof/Machine/Orders.lean ====
section
/-! DEFINITION. The Order Sequencer (chapter 4): the order list, starts, phases, ends, trips, deadlines, the hold. -/

namespace Sys2Proof.Machine

/-! ### The list -/

/-- R63: the order names the holder. -/
def Order.names (o : Order) (h : HolderId) : Bool := o.holder == h || o.second == some h

/-- R63: the order is ACTIVE. -/
def Order.active (o : Order) : Bool := o.phase.isSome

/-- R63: the holder is engaged by an ACTIVE order that names it. -/
def Ctl.engaged (c : Ctl) (h : HolderId) : Bool := c.seq.orders.any fun o => o.active && o.names h

/-- R84: an order in the list, QUEUED or ACTIVE, names the holder. -/
def Ctl.orderNames (c : Ctl) (h : HolderId) : Bool := c.seq.orders.any fun o => o.names h

/-- The order of a number in the list. -/
def Ctl.findOrder (c : Ctl) (n : Nat) : Option Order := c.seq.orders.find? fun o => o.number == n

/-- Changes the order of a number in its place. -/
def Ctl.modOrder (c : Ctl) (n : Nat) (f : Order → Order) : Ctl :=
  { c with seq := { c.seq with orders := c.seq.orders.map fun o => if o.number == n then f o else o } }

/-- The numbers of the ACTIVE orders, in list order. -/
def Ctl.activeNumbers (c : Ctl) : List Nat := (c.seq.orders.filter Order.active).map Order.number

/-- R64: the head, the oldest QUEUED order. -/
def Ctl.headOrder (c : Ctl) : Option Order := c.seq.orders.find? fun o => !o.active

/-! ### Numbers (R65) -/

/-- R65: from 999 back to 1. -/
def nextNumberAfter (n : Nat) : Nat := if n ≥ Config.orderNumberMax then 1 else n + 1

/-- R65: the number is held by an order of the list or an entry of the ended list. -/
def Sequencer.numberInUse (q : Sequencer) (n : Nat) : Bool :=
  q.orders.any (fun o => o.number == n) || q.ended.any (fun e => e.number == n)

/-- R65: the first number held in neither list, from a value on. At most twelve are held, so 13 tries suffice. -/
def Sequencer.freeNumber (q : Sequencer) : Nat → Nat → Nat
  | 0, n => n
  | tries + 1, n => if q.numberInUse n then q.freeNumber tries (nextNumberAfter n) else n

/-! ### Ends (R82) -/

/-- What the rule that ends an order says of the end. -/
structure Ending where
  reason : EndReason
  phase : Option Phase
  inletHeld : Bool
  outletHeld : Bool
  cause : EndCause
  deriving DecidableEq, Repr

/-- An end in a phase that names nothing further. -/
def Ending.plain (reason : EndReason) (phase : Option Phase) : Ending :=
  { reason := reason, phase := phase, inletHeld := false, outletHeld := false, cause := .none }

/-- R63: the order lets gas flow: a FILL or a DRAW. -/
def OrderKind.flows : OrderKind → Bool
  | .fill => true
  | .draw => true
  | .changeover => false
  | .isolate => false

/-- R82: the end record of an order; that of a FILL or DRAW carries the last stock given for its holder. -/
def Order.endRecord (o : Order) (e : Ending) (last : Option Nat) (minute : Nat) : EndRecord :=
  { number := o.number, kind := o.kind, holder := o.holder, second := o.second, target := o.target,
    endAction := o.endAction, phase := e.phase, minutesRun := o.minutesRun, reason := e.reason,
    inletHeld := e.inletHeld, outletHeld := e.outletHeld, cause := e.cause,
    lastStock := if o.kind.flows then last else none, minute := minute }

/-- R64: the newest end record joins the ended list; of five the oldest is pushed out. -/
def appendEnded (l : List EndRecord) (r : EndRecord) : List EndRecord :=
  if l.length < Config.endedListMax then l ++ [r] else l.drop 1 ++ [r]

/-- R82 steps 2 and 3: the order leaves the list, its end record joins the ended list, and ORDER END is posted. -/
def Ctl.recordEnd (c : Ctl) (o : Order) (e : Ending) : Ctl :=
  let r := o.endRecord e (c.seq.lastStock.get o.holder) c.clock.minute
  { c with seq := { c.seq with
      orders := c.seq.orders.filter fun p => p.number != o.number
      ended := appendEnded c.seq.ended r } }.post (.orderEnd r)

/-- R53: the interlock named by an answer holds the valve of a side (INLET HELD, OUTLET HELD). -/
def Answer.holds (a : Answer) (side : Side) : Bool :=
  match a, side with
  | .interlock .lastInlet, .inlet => true
  | .interlock .lastOutlet, .outlet => true
  | _, _ => false

/-- R69, R70: the valve a FILL or DRAW commands. -/
def OrderKind.side : OrderKind → Side
  | .fill => .inlet
  | .draw => .outlet
  | .changeover => .outlet
  | .isolate => .inlet

/-- R72, R82: a FILL or DRAW ends with its end action applied to the valve it commanded. -/
def Ctl.endWithAction (c : Ctl) (o : Order) (reason : EndReason) (cause : EndCause) : Ctl :=
  match o.endAction with
  | some .close =>
    let (c', a) := c.orderCommand o.number o.holder o.kind.side .closed
    c'.recordEnd o { reason := reason, phase := o.phase, inletHeld := a.holds .inlet, outletHeld := a.holds .outlet,
                     cause := cause }
  | some .leave => c.recordEnd o { Ending.plain reason o.phase with cause := cause }
  | none => c.recordEnd o { Ending.plain reason o.phase with cause := cause }

/-- R74, R80: a CHANGEOVER in OPENING NEW ends with holder b's outlet commanded CLOSED under its number. -/
def Ctl.endClosingNew (c : Ctl) (o : Order) (reason : EndReason) (cause : EndCause) : Ctl :=
  match o.second with
  | some b => (c.orderCommand o.number b .outlet .closed).1.recordEnd o { Ending.plain reason o.phase with cause := cause }
  | none => c.recordEnd o { Ending.plain reason o.phase with cause := cause }

/-! ### Starts (R68 to R75) -/

/-- The flags a start reads; a holder without a record has them clear. -/
def Ctl.flagsOf (c : Ctl) (h : HolderId) : Flags :=
  match c.holders.get h with
  | some r => r.flags
  | none => Flags.clear

/-- The stock a start reads, where the figures are present. -/
def Ctl.stockOf (c : Ctl) (h : HolderId) : Option Nat := ((c.holders.get h).bind HolderRec.figures).map Figures.stock

/-- R68: what a start finds: an end at once, or nothing in the way. -/
def Ctl.startEnd (c : Ctl) (o : Order) : Option Ending :=
  let stop (h : HolderId) (w : Interlock) : Option Ending :=
    some { Ending.plain .interlocked none with cause := .interlock h w }
  let f := c.flagsOf o.holder
  match o.kind with
  | .fill =>
    if f.top then stop o.holder .top
    else
      match o.target with
      | none => if f.topNear then stop o.holder .topNear else none
      | some t =>
        match c.stockOf o.holder with
        | some s => if s ≥ t then some (Ending.plain .atTarget none) else none
        | none => none
  | .draw =>
    if f.landed then stop o.holder .landed
    else
      match o.target with
      | none => if f.landingNear then stop o.holder .landingNear else none
      | some t =>
        match c.stockOf o.holder with
        | some s => if s ≤ t then some (Ending.plain .atTarget none) else none
        | none => none
  | .changeover =>
    match o.second with
    | some b =>
      if (c.flagsOf b).landed then stop b .landed
      else if c.valveIs o.holder .outlet ValveRec.commandedOpen then none
      else stop o.holder .aOutletNotOpen
    | none => none
  | .isolate => none

/-- The valve of a defined holder is in a state. -/
def Ctl.valveIn (c : Ctl) (h : HolderId) (side : Side) (st : ValveState) : Bool :=
  c.valveIs h side fun v => v.state == st

/-- The phase of an order becomes p. -/
def Ctl.setPhase (c : Ctl) (n : Nat) (p : Phase) : Ctl := c.modOrder n fun o => { o with phase := some p }

/-- R73 step 1: the CHANGEOVER commands holder a's outlet CLOSED and enters CLOSING OLD; an outlet found CLOSED ends it. -/
def Ctl.closeOld (c : Ctl) (o : Order) : Ctl :=
  let c' := (c.orderCommand o.number o.holder .outlet .closed).1.setPhase o.number .closingOld
  if c'.valveIn o.holder .outlet .closed then
    c'.recordEnd { o with phase := some .closingOld } (Ending.plain .done (some .closingOld))
  else c'

/-- R69, R70: a FILL or DRAW commands its valve OPEN and waits for it, or finds it OPEN. -/
def Ctl.startFlow (c : Ctl) (o : Order) (opening running : Phase) : Ctl :=
  let c' := (c.orderCommand o.number o.holder o.kind.side .opened).1
  c'.setPhase o.number (if c'.valveIn o.holder o.kind.side .opened then running else opening)

/-- R73: a CHANGEOVER commands holder b's outlet OPEN and waits for it, or finds it OPEN. -/
def Ctl.startChangeover (c : Ctl) (o : Order) (b : HolderId) : Ctl :=
  let c' := (c.orderCommand o.number b .outlet .opened).1.setPhase o.number .openingNew
  if c'.valveIn b .outlet .opened then c'.closeOld { o with phase := some .openingNew } else c'

/-- R75: what the two closes of an ISOLATE make of it. -/
def isolateInterlock (inletAns outletAns : Answer) : Option Interlock :=
  match inletAns.holds .inlet, outletAns.holds .outlet with
  | false, false => none
  | true, false => some .lastInlet
  | false, true => some .lastOutlet
  | true, true => some .bothLast

/-- R75: both valves of the holder are in state CLOSED. -/
def Ctl.bothClosed (c : Ctl) (h : HolderId) : Bool := c.valveIn h .inlet .closed && c.valveIn h .outlet .closed

/-- R75: an ISOLATE commands its inlet and then its outlet CLOSED; a refusal ends it, and two CLOSED valves end it DONE.
DESIGN CHOICE (log 52): the end record of one that a refusal ends carries no phase. -/
def Ctl.startIsolate (c : Ctl) (o : Order) : Ctl :=
  let (c1, a1) := c.orderCommand o.number o.holder .inlet .closed
  let (c2, a2) := c1.orderCommand o.number o.holder .outlet .closed
  match isolateInterlock a1 a2 with
  | some w => c2.recordEnd o { Ending.plain .interlocked none with cause := .interlock o.holder w }
  | none =>
    let c3 := c2.setPhase o.number .closing
    if c3.bothClosed o.holder then
      c3.recordEnd { o with phase := some .closing } (Ending.plain .done (some .closing))
    else c3

/-- R68: the head starts. It becomes ACTIVE or ends at once. -/
def Ctl.startOrder (c : Ctl) (o : Order) : Ctl :=
  match c.startEnd o with
  | some e => c.recordEnd o e
  | none =>
    match o.kind with
    | .fill => c.startFlow o .openingInlet .runningFill
    | .draw => c.startFlow o .openingOutlet .runningDraw
    | .changeover =>
      match o.second with
      | some b => c.startChangeover o b
      | none => c.setPhase o.number .openingNew
    | .isolate => c.startIsolate o

/-- R67: no holder the head names is engaged or reserved. -/
def Ctl.canStart (c : Ctl) (o : Order) : Bool :=
  allHolders.all fun h => !o.names h || (!c.engaged h && !c.holderReserved h)

/-- R67: heads start one after another; each start leaves one QUEUED order less, so the list's length is fuel enough. -/
def Ctl.startHeads : Nat → Ctl → Ctl
  | 0, c => c
  | fuel + 1, c =>
    match c.headOrder with
    | none => c
    | some o => if c.canStart o then Ctl.startHeads fuel (c.startOrder o) else c

/-- R67: the starting rule; a held sequencer starts no order. -/
def Ctl.startingRule (c : Ctl) : Ctl := if c.seq.held then c else Ctl.startHeads c.seq.orders.length c

/-! ### Judgement at a sample (R71) -/

/-- R71: the reason a FILL or DRAW ends for, given a stock and flags. -/
def Order.endAt (o : Order) (g : Given) : Option EndReason :=
  match o.kind, o.target with
  | .fill, some t => if g.stock ≥ t then some .atTarget else none
  | .fill, none => if g.flags.topNear then some .atBand else none
  | .draw, some t => if g.stock ≤ t then some .atTarget else none
  | .draw, none => if g.flags.landingNear then some .atBand else none
  | .changeover, _ => none
  | .isolate, _ => none

/-- R72: the FILL or DRAW ends for a reason, and the starting rule is applied. -/
def Ctl.endFlow (c : Ctl) (o : Order) (reason : EndReason) : Ctl := (c.endWithAction o reason .none).startingRule

/-- R71: the ACTIVE FILL or DRAW on a holder. -/
def Ctl.flowOn (c : Ctl) (h : HolderId) : Option Order :=
  c.seq.orders.find? fun o => o.active && o.holder == h && o.kind.flows

/-- R20, R82: the stock given for a holder is the last given for it. -/
def Ctl.noteStock (c : Ctl) (h : HolderId) (stock : Nat) : Ctl :=
  { c with seq := { c.seq with lastStock := c.seq.lastStock.put h (some stock) } }

/-- R71: the ACTIVE FILL or DRAW on a holder keeps the stock and flags given; unless held, they may end it. -/
def Ctl.judgeSample (c : Ctl) (h : HolderId) (g : Given) : Ctl :=
  match c.flowOn h with
  | none => c
  | some o =>
    let o' := { o with given := some g }
    let c' := c.modOrder o.number fun p => { p with given := some g }
    if c.seq.held then c'
    else
      match o'.endAt g with
      | some reason => c'.endFlow o' reason
      | none => c'

/-- R20, R71: the stock and flags after a sample are given for a holder that an ACTIVE order, of any kind, names (log 12). -/
def Ctl.giveSample (c : Ctl) (h : HolderId) (g : Given) : Ctl :=
  if c.engaged h then (c.noteStock h g.stock).judgeSample h g else c

/-! ### Valve reports (R69, R73, R75, R76) -/

/-- R69, R70, R73, R75: the order awaits this valve at this state. -/
def Order.awaits (o : Order) (h : HolderId) (side : Side) (st : ValveState) : Bool :=
  match o.phase with
  | some .openingInlet => o.holder == h && side == .inlet && st == .opened
  | some .openingOutlet => o.holder == h && side == .outlet && st == .opened
  | some .openingNew => o.second == some h && side == .outlet && st == .opened
  | some .closingOld => o.holder == h && side == .outlet && st == .closed
  | some .closing => o.holder == h && st == .closed
  | some .runningFill => false
  | some .runningDraw => false
  | none => false

/-- R69, R73, R75, R81: the phase step of an awaited arrival, if the awaited valve is in the awaited state. -/
def Ctl.phaseStep (c : Ctl) (o : Order) : Ctl :=
  match o.phase with
  | some .openingInlet => if c.valveIn o.holder .inlet .opened then c.setPhase o.number .runningFill else c
  | some .openingOutlet => if c.valveIn o.holder .outlet .opened then c.setPhase o.number .runningDraw else c
  | some .openingNew =>
    match o.second with
    | some b =>
      if c.valveIn b .outlet .opened then
        let c' := c.closeOld o
        if (c'.findOrder o.number).isSome then c' else c'.startingRule
      else c
    | none => c
  | some .closingOld =>
    if c.valveIn o.holder .outlet .closed then (c.recordEnd o (Ending.plain .done o.phase)).startingRule else c
  | some .closing =>
    if c.bothClosed o.holder then (c.recordEnd o (Ending.plain .done o.phase)).startingRule else c
  | some .runningFill => c
  | some .runningDraw => c
  | none => c

/-- R69, R73, R75: the report that a valve has arrived at OPEN or CLOSED, by arrival or late arrival. -/
def Ctl.reportArrival (c : Ctl) (h : HolderId) (side : Side) (st : ValveState) : Ctl :=
  match c.seq.orders.find? fun o => o.awaits h side st with
  | none => c
  | some o =>
    if c.seq.held then c.modOrder o.number fun p => { p with arrivalPending := true } else c.phaseStep o

/-- R74, R75, R76: what the failure of a valve makes of an ACTIVE order: none where the order goes on. -/
def Ctl.failOrder (c : Ctl) (o : Order) (h : HolderId) (side : Side) (st : ValveState) : Option Ctl :=
  let cause : EndCause := .valve h side st
  match o.phase with
  | none => none
  | some .openingInlet => if o.holder == h && side == .inlet then some (c.endWithAction o .failed cause) else none
  | some .runningFill => if o.holder == h && side == .inlet then some (c.endWithAction o .failed cause) else none
  | some .openingOutlet => if o.holder == h && side == .outlet then some (c.endWithAction o .failed cause) else none
  | some .runningDraw => if o.holder == h && side == .outlet then some (c.endWithAction o .failed cause) else none
  | some .openingNew =>
    if o.second == some h && side == .outlet then some (c.endClosingNew o .failed cause) else none
  | some .closingOld =>
    if side == .outlet && (o.holder == h || (o.second == some h && st == .disagree)) then
      some (c.recordEnd o { Ending.plain .failed o.phase with cause := cause })
    else none
  | some .closing =>
    if o.holder == h then some (c.recordEnd o { Ending.plain .failed o.phase with cause := cause }) else none

/-- The ACTIVE order that engages a holder; R64 gives at most one. -/
def Ctl.engager (c : Ctl) (h : HolderId) : Option Order := c.seq.orders.find? fun o => o.active && o.names h

/-- R74, R75, R76: the report that a valve has gone STUCK or DISAGREE; made while held as well as not. -/
def Ctl.reportFailure (c : Ctl) (h : HolderId) (side : Side) (st : ValveState) : Ctl :=
  match c.engager h with
  | none => c
  | some o =>
    match c.failOrder o h side st with
    | some c' => c'.startingRule
    | none => c

/-! ### Trips (R74, R77) -/

/-- R74, R77: the trip ends the order that engages the holder. -/
def Order.tripEnds (o : Order) (h : HolderId) (kind : TripKind) : Bool :=
  match o.kind, kind with
  | .draw, .landing => true
  | .fill, .top => true
  | .fill, .landing => false
  | .draw, .top => false
  | .changeover, .landing => o.second == some h || o.phase == some .openingNew
  | .changeover, .top => false
  | .isolate, .landing => false
  | .isolate, .top => false

/-- R77: a trip handed to the sequencer, judged against the order that engages the holder. -/
def Ctl.orderTrip (c : Ctl) (h : HolderId) (kind : TripKind) : Ctl :=
  match c.engager h with
  | none => c
  | some o =>
    if o.tripEnds h kind then
      (c.recordEnd o { Ending.plain .trip o.phase with cause := .trip h kind }).startingRule
    else c

/-! ### Deadlines (R78) -/

/-- R78: an order whose deadline has come ends TIMED OUT, with the action its kind and phase give. -/
def Ctl.timeOut (c : Ctl) (o : Order) : Ctl :=
  match o.kind with
  | .fill => (c.endWithAction o .timedOut .none).startingRule
  | .draw => (c.endWithAction o .timedOut .none).startingRule
  | .changeover =>
    if o.phase == some .openingNew then (c.endClosingNew o .timedOut .none).startingRule
    else (c.recordEnd o (Ending.plain .timedOut o.phase)).startingRule
  | .isolate => (c.recordEnd o (Ending.plain .timedOut o.phase)).startingRule

/-- R78: one minute of the order of a number. -/
def Ctl.orderMinuteOf (c : Ctl) (n : Nat) : Ctl :=
  match c.findOrder n with
  | none => c
  | some o =>
    let o' := { o with minutesRun := o.minutesRun + 1 }
    let c' := c.modOrder n fun p => { p with minutesRun := p.minutesRun + 1 }
    if o'.minutesRun == o'.deadline then c'.timeOut o' else c'

/-- R78: the minute event at the sequencer: the orders ACTIVE when it comes, in list order; none while held. -/
def Ctl.ordersMinute (c : Ctl) : Ctl :=
  if c.seq.held then c else c.activeNumbers.foldl Ctl.orderMinuteOf c

/-! ### Cancelling (R79, R80) -/

/-- R79: what a cancel makes of an order of the list; none where it is TOO LATE. -/
def Ctl.cancel (c : Ctl) (o : Order) : Option Ctl :=
  match o.phase with
  | none => some (c.recordEnd o (Ending.plain .cancelled none)).startingRule
  | some .openingInlet => some (c.endFlow o .cancelled)
  | some .runningFill => some (c.endFlow o .cancelled)
  | some .openingOutlet => some (c.endFlow o .cancelled)
  | some .runningDraw => some (c.endFlow o .cancelled)
  | some .openingNew => some (c.endClosingNew o .cancelled .none).startingRule
  | some .closingOld => none
  | some .closing => some (c.recordEnd o (Ending.plain .cancelled o.phase)).startingRule

/-! ### The hold (R81) -/

/-- R81: the order of a number has its arrival pending mark cleared and its phase step made. -/
def Ctl.resumeArrival (c : Ctl) (n : Nat) : Ctl :=
  match c.findOrder n with
  | none => c
  | some o =>
    if o.arrivalPending then
      (c.modOrder n fun p => { p with arrivalPending := false }).phaseStep { o with arrivalPending := false }
    else c

/-- R81: a FILL or DRAW in RUNNING is judged against the stock and flags last given. -/
def Ctl.resumeJudge (c : Ctl) (n : Nat) : Ctl :=
  match c.findOrder n with
  | none => c
  | some o =>
    if o.phase == some .runningFill || o.phase == some .runningDraw then
      match o.given with
      | some g =>
        match o.endAt g with
        | some reason => c.endFlow o reason
        | none => c
      | none => c
    else c

/-- R81: one ACTIVE order taken at the resume. -/
def Ctl.resumeOrder (c : Ctl) (n : Nat) : Ctl := (c.resumeArrival n).resumeJudge n

/-- R81: ORDERS RESUME from held takes the ACTIVE orders in list order and then applies the starting rule. DESIGN CHOICE
(log 51): the hold is lifted first, so an end made while the orders are taken applies the starting rule at once (R82). -/
def Ctl.resume (c : Ctl) : Ctl :=
  if c.seq.held then
    let c' := { c with seq := { c.seq with held := false } }
    (c'.activeNumbers.foldl Ctl.resumeOrder c').startingRule
  else c

/-! ### Removal (R84) -/

/-- R84: the oldest order of the list that names the holder. -/
def Ctl.namingOrder (c : Ctl) (h : HolderId) : Option Order := c.seq.orders.find? fun o => o.names h

/-- R84: every order that names the holder ends REMOVED, in list order. -/
def Ctl.removeNaming : Nat → HolderId → Ctl → Ctl
  | 0, _, c => c
  | fuel + 1, h, c =>
    match c.namingOrder h with
    | none => c
    | some o => Ctl.removeNaming fuel h (c.recordEnd o (Ending.plain .removed o.phase))

/-- R189 step 3: every order of the list ends REMOVED, in list order. -/
def Ctl.removeAllOrders (c : Ctl) : Ctl :=
  c.seq.orders.foldl (fun c o => c.recordEnd o (Ending.plain .removed o.phase)) c

end Sys2Proof.Machine
end

