-- ==== Sys2Proof/Machine/OrderRequests.lean ====
section
/-! DEFINITION. The requests of the Order Sequencer (chapter 4): SUBMIT ORDER, CANCEL ORDER, ORDER LIST, ORDERS HOLD and
ORDERS RESUME, and the sequencer's warm restart. -/

namespace Sys2Proof.Machine

/-- R66: every holder an order names is defined. -/
def Ctl.holdersDefined (c : Ctl) (o : OrderOperands) : Bool :=
  (c.holders.get o.holder).isSome &&
  match o.second with
  | some b => (c.holders.get b).isSome
  | none => true

/-- R63: an order as created, QUEUED. -/
def OrderOperands.order (o : OrderOperands) (number : Nat) : Order :=
  { number := number, kind := o.kind, holder := o.holder, second := o.second, target := o.target
    deadline := o.deadline, endAction := o.endAction, phase := none, minutesRun := 0, arrivalPending := false
    given := none }

/-- R65: the number the next accepted order receives. -/
def Sequencer.givenNumber (q : Sequencer) : Nat := q.freeNumber 13 q.nextNumber

/-- R65, R66: an accepted order is numbered and appended as the newest entry. -/
def Ctl.acceptOrder (c : Ctl) (o : OrderOperands) : Ctl :=
  { c with seq := { c.seq with
      orders := c.seq.orders ++ [o.order c.seq.givenNumber]
      nextNumber := nextNumberAfter c.seq.givenNumber } }

/-- R66: the standing of an order after the starting rule. -/
def Ctl.standing (c : Ctl) (n : Nat) : Standing :=
  match c.findOrder n with
  | some o =>
    match o.phase with
    | some p => .active p
    | none => .queued
  | none =>
    match c.seq.ended.find? fun e => e.number == n with
    | some e => .ended e.reason
    | none => .queued

/-- R66: an order that passes every check. -/
def Ctl.takeOrder (c : Ctl) (tag : Byte) (o : OrderOperands) : Ctl :=
  let n := c.seq.givenNumber
  let c' := (c.acceptOrder o).startingRule
  c'.reply 0x10#8 tag .done (.submitted n (c'.standing n))

/-- R66: SUBMIT ORDER. -/
def Ctl.submitOrder (c : Ctl) (tag : Byte) (body : List Byte) : Ctl :=
  match parseSubmitOrder body with
  | .error r => c.refuse 0x10#8 tag r
  | .ok o =>
    if !c.holdersDefined o then c.refuse 0x10#8 tag .notDefined
    else if c.seq.orders.length < Config.orderListMax then c.takeOrder tag o
    else c.refuse 0x10#8 tag .full

/-- R79: CANCEL ORDER. -/
def Ctl.cancelOrder (c : Ctl) (tag : Byte) (body : List Byte) : Ctl :=
  match parseCancelOrder body with
  | .error r => c.refuse 0x11#8 tag r
  | .ok n =>
    match c.findOrder n with
    | none => c.refuse 0x11#8 tag .notFound
    | some o =>
      match c.cancel o with
      | some c' => c'.reply 0x11#8 tag .done .nothing
      | none => c.refuse 0x11#8 tag .tooLate

/-- R83: ORDER LIST. -/
def Ctl.orderList (c : Ctl) (tag : Byte) (_body : List Byte) : Ctl :=
  c.reply 0x12#8 tag .done (.orders c.seq.held c.seq.nextNumber c.seq.orders c.seq.ended)

/-- R81: ORDERS HOLD. -/
def Ctl.ordersHold (c : Ctl) (tag : Byte) (_body : List Byte) : Ctl :=
  { c with seq := { c.seq with held := true } }.reply 0x13#8 tag .done (.hold true)

/-- R81: ORDERS RESUME. -/
def Ctl.ordersResume (c : Ctl) (tag : Byte) (_body : List Byte) : Ctl :=
  let c' := c.resume
  c'.reply 0x14#8 tag .done (.hold c'.seq.held)

/-- R85: the sequencer after a warm restart. The counter is kept, and so is the last stock given (log 12). -/
def Sequencer.restarted (q : Sequencer) : Sequencer := { q with orders := [], ended := [], held := false }

end Sys2Proof.Machine
end

