-- ==== Sys2Proof/Machine/Poller.lean ====
section
/-! DEFINITION. The Telemetry Poller (chapter 7): station records, exchanges and their judgement, the arbiter, the
pass-through, and the requests STATION STATUS, CLEAR STATION MARKS and STATION PASS. -/

namespace Sys2Proof.Machine

/-! ### Frames (R208) -/

/-- R208: the function byte. -/
def TeleFunction.code : TeleFunction → Nat
  | .readPoints => 1
  | .writeSetPoint _ => 2

/-- R206: the enumeration code of a function in a notice or a fault detail. -/
def TeleFunction.enumCode : TeleFunction → Nat
  | .readPoints => 0
  | .writeSetPoint _ => 1

/-- R208: the length of the request frame. -/
def TeleFunction.requestLength : TeleFunction → Nat
  | .readPoints => 6
  | .writeSetPoint _ => 8

/-- R208: the length of the reply frame. -/
def TeleFunction.replyLength : TeleFunction → Nat
  | .readPoints => 14
  | .writeSetPoint _ => 8

/-- R208: the length byte of the reply frame. -/
def TeleFunction.replyBody : TeleFunction → Nat
  | .readPoints => 8
  | .writeSetPoint _ => 2

/-- R208: the request frame of an exchange, what the line carries in its transmit period. -/
def Exchange.requestFrame (e : Exchange) : List Byte :=
  match e.function with
  | .readPoints => telemetryFrame e.address 1 []
  | .writeSetPoint v => telemetryFrame e.address 2 (u16 v)

/-- R126: the code of a failure kind (R206). -/
def FailureKind.code : FailureKind → Nat
  | .noReply => 0
  | .badCheck => 1
  | .wrongAddress => 2
  | .badEcho => 3

/-- R202, R208: the lead byte is A6h and the check agrees with the address, function, length and body. -/
def telemetryCheckGood (frame : List Byte) : Bool :=
  frame.head? == some 0xA6#8 &&
  checkBytes ((frame.drop 1).take (frame.length - 3)) == frame.drop (frame.length - 2)

/-- R126: the value echoed is the value sent. -/
def TeleFunction.echoes (f : TeleFunction) (frame : List Byte) : Bool :=
  match f with
  | .readPoints => true
  | .writeSetPoint v => field frame 4 2 == v

/-- R126, R208: a complete reply judged; none is a good reply. -/
def Exchange.judge (e : Exchange) (frame : List Byte) : Option FailureKind :=
  if !telemetryCheckGood frame then some .badCheck
  else if field frame 1 1 != e.address then some .wrongAddress
  else if field frame 2 1 != e.function.code || field frame 3 1 != e.function.replyBody then some .badEcho
  else if !e.function.echoes frame then some .badEcho
  else none

/-! ### Station records (R128, R140) -/

/-- R128: a slot never written. -/
def Slot.empty : Slot := { value := none, fresh := false, overflow := false }

/-- R132: a slot takes a value. -/
def Slot.write (s : Slot) (v : Nat) : Slot := { value := some v, fresh := true, overflow := s.overflow || s.fresh }

/-- R133: a consumer takes a slot. -/
def Slot.taken (s : Slot) : Slot := { s with fresh := false }

/-- R139: the overflow mark cleared. -/
def Slot.clearOverflow (s : Slot) : Slot := { s with overflow := false }

/-- R140: a station record as created at a moment. -/
def createdStation (address pollInterval now : Nat) : StationRec :=
  { address := address, pollInterval := pollInterval, state := .unpolled, readDue := now, lastRead := none
    slot0 := Slot.empty, slot1 := Slot.empty, slot2 := Slot.empty, slot3 := Slot.empty, lastGood := none
    lastFailure := none, pendingWrite := none, writeInFlight := none }

/-- Changes the station record of a district where it is defined. -/
def Ctl.modStation (c : Ctl) (d : DistrictId) (f : StationRec → StationRec) : Ctl :=
  c.modDistrict d fun r => { r with station := f r.station }

/-- The station record of a district. -/
def Ctl.station (c : Ctl) (d : DistrictId) : Option StationRec := (c.districts.get d).map DistrictRec.station

/-! ### The arbiter (R124, R130, R131) -/

/-- R124: the line settings read at the start of an exchange. -/
def Ctl.lineSettings (c : Ctl) : LineSettings :=
  { speed := c.settings.speed, quiet := c.settings.quiet, window := c.settings.window }

/-- R130: an exchange starts at once with the quiet period of its first attempt. -/
def Ctl.startExchange (c : Ctl) (served : Served) (address : Nat) (f : TeleFunction) : Ctl :=
  { c with line := some { served := served, address := address, function := f, attempt := 1, period := .quiet
                          settings := c.lineSettings, since := c.now, orphan := false } }

/-- R130: a pending write starts: its value moves to the write in flight. -/
def Ctl.startWrite (c : Ctl) (d : DistrictId) (address v : Nat) : Ctl :=
  (c.modStation d fun s => { s with pendingWrite := none, writeInFlight := some v }).startExchange
    (.district d) address (.writeSetPoint v)

/-- R131: a read starts, and its station's read due time is set anew. -/
def Ctl.startRead (c : Ctl) (d : DistrictId) (address : Nat) : Ctl :=
  (c.modStation d fun s => { s with readDue := c.now + 1000 * s.pollInterval, lastRead := some c.now }).startExchange
    (.district d) address .readPoints

/-- R130: the lowest district with a pending write, with its address and value. -/
def Ctl.nextWrite (c : Ctl) : Option (DistrictId × Nat × Nat) :=
  allDistricts.findSome? fun d =>
    match c.station d with
    | some s => s.pendingWrite.map fun v => (d, s.address, v)
    | none => none

/-- R130, R131: the more overdue of a candidate and a station, the earlier candidate where they are equal. -/
def Ctl.moreOverdue (c : Ctl) (best : Option (DistrictId × StationRec)) (d : DistrictId) :
    Option (DistrictId × StationRec) :=
  match c.station d with
  | none => best
  | some s =>
    if s.readDue ≤ c.now then
      match best with
      | some (_, b) => if s.readDue < b.readDue then some (d, s) else best
      | none => some (d, s)
    else best

/-- R130, R131: the most overdue read. -/
def Ctl.nextRead (c : Ctl) : Option (DistrictId × StationRec) := allDistricts.foldl c.moreOverdue none

/-- R136: an accepted pass-through that has not started. -/
def Ctl.waitingPass (c : Ctl) : Option PassSlot := c.pass.filter fun p => !p.inFlight

/-- R130: the arbiter on an idle line; a busy line keeps its exchange. -/
def Ctl.arbiter (c : Ctl) : Ctl :=
  if c.line.isSome then c
  else
    match c.waitingPass with
    | some p => { c with pass := some { p with inFlight := true } }.startExchange .pass p.address .readPoints
    | none =>
      match c.nextWrite with
      | some (d, a, v) => c.startWrite d a v
      | none =>
        match c.nextRead with
        | some (d, s) => c.startRead d s.address
        | none => c

/-! ### Reports and station states (R118, R129, R132, R135) -/

/-- R118, R135: a confirmed write sets the last confirmed set-point, and no write is in flight. -/
def Ctl.confirmWrite (c : Ctl) (d : DistrictId) (v : Nat) : Ctl :=
  c.modDistrict d fun r => { r with confirmed := some v, station := { r.station with writeInFlight := none } }

/-- R118, R135: an abandoned write leaves the last confirmed set-point as it was. -/
def Ctl.abandonWrite (c : Ctl) (d : DistrictId) : Ctl := c.modStation d fun s => { s with writeInFlight := none }

/-- R147: the SILENT holding of a district; an entry into SILENT also sets silence seen in the open hour. -/
def Ctl.holdSilent (c : Ctl) (d : DistrictId) (silent : Bool) : Ctl :=
  { c with acc := { c.acc with
      silent := c.acc.silent.put d silent
      hour := { c.acc.hour with silenceSeen := c.acc.hour.silenceSeen || silent } } }

/-- Section 11.1: STATION SILENT, with the failure kind and the function as details. -/
def silentFault (d : DistrictId) (k : Option FailureKind) (f : TeleFunction) : FaultReport :=
  { cause := .stationSilent, object := .district d, detail1 := k.map fun k => (k.code : Int),
    detail2 := some f.enumCode }

/-- R129: the station's state after a good reply. -/
def Ctl.stationAnswered (c : Ctl) (d : DistrictId) (f : TeleFunction) : Ctl :=
  match c.station d with
  | none => c
  | some s =>
    let c' := c.modStation d fun s => { s with state := .responding }
    let note : StationNotice :=
      { district := d, address := s.address, before := s.state, after := .responding, function := some f, failure := none }
    match s.state with
    | .responding => c
    | .unpolled => c'.post (.station note)
    | .silent => (c'.holdSilent d false).post (.station note)

/-- R129: the station's state after a third failed attempt. -/
def Ctl.stationFailed (c : Ctl) (d : DistrictId) (f : TeleFunction) : Ctl :=
  match c.station d with
  | none => c
  | some s =>
    if s.state == .silent then c
    else
      (((c.modStation d fun s => { s with state := .silent }).holdSilent d true).post (.station
        { district := d, address := s.address, before := s.state, after := .silent, function := some f,
          failure := s.lastFailure })).raise (silentFault d s.lastFailure f)

/-- R132: a good READ POINTS reply writes the four slots and the last good reading. -/
def StationRec.takeReading (s : StationRec) (frame : List Byte) (minute : Nat) : StationRec :=
  { s with
    slot0 := s.slot0.write (field frame 4 3)
    slot1 := s.slot1.write (min 600 (field frame 7 2))
    slot2 := s.slot2.write (min 100 (field frame 9 1))
    slot3 := s.slot3.write (min 600 (field frame 10 2))
    lastGood := some minute }

/-! ### Ends of exchanges (R125 to R127, R137, R140) -/

/-- The kind byte of STATION PASS. -/
def passKind : Byte := 0x26#8

/-- R137: a pass-through ends: its reply is finished and the slot is empty. -/
def Ctl.endPass (c : Ctl) (result : Result) (content : ReplyContent) : Ctl :=
  match c.pass with
  | some p => { c with pass := none }.reply passKind p.tag result content
  | none => c

/-- R127: what a good reply does before the arbiter is run. -/
def Ctl.exchangeGood (c : Ctl) (e : Exchange) (frame : List Byte) : Ctl :=
  match e.served with
  | .pass =>
    c.endPass .done (.points (field frame 4 3) (field frame 7 2) (field frame 9 1) (field frame 10 2) e.attempt)
  | .district d =>
    if e.orphan then c
    else
      match e.function with
      | .readPoints => (c.modStation d fun s => s.takeReading frame c.clock.minute).stationAnswered d e.function
      | .writeSetPoint v => (c.confirmWrite d v).stationAnswered d e.function

/-- R127: what a third failed attempt does before the arbiter is run. -/
def Ctl.exchangeFailed (c : Ctl) (e : Exchange) : Ctl :=
  match e.served with
  | .pass => c.endPass .silent (.failure (c.pass.bind PassSlot.lastFailure))
  | .district d =>
    if e.orphan then c
    else
      match e.function with
      | .readPoints => c.stationFailed d e.function
      | .writeSetPoint _ => (c.abandonWrite d).stationFailed d e.function

/-- R126: the failure kind of an attempt is recorded for the station addressed, or for the pass-through. -/
def Ctl.recordFailure (c : Ctl) (e : Exchange) (k : FailureKind) : Ctl :=
  match e.served with
  | .pass => { c with pass := c.pass.map fun p => { p with lastFailure := some k } }
  | .district d => if e.orphan then c else c.modStation d fun s => { s with lastFailure := some k }

/-- R125: an attempt has failed: the next begins with its quiet period at once, or the third ends the exchange. -/
def Ctl.attemptFailed (c : Ctl) (e : Exchange) (k : FailureKind) : Ctl :=
  let c' := c.recordFailure e k
  if e.attempt < 3 then { c' with line := some { e with attempt := e.attempt + 1, period := .quiet, since := c.now } }
  else ({ c' with line := none }.exchangeFailed e).arbiter

/-- R125, R126: a complete frame is judged at once. -/
def Ctl.frameHeld (c : Ctl) (e : Exchange) (frame : List Byte) : Ctl :=
  match e.judge frame with
  | none => ({ c with line := none }.exchangeGood e frame).arbiter
  | some k => c.attemptFailed e k

/-- R125: a byte on the telemetry line; outside a reply window it is discarded. -/
def Ctl.telemetryByte (c : Ctl) (b : Byte) : Ctl :=
  match c.line with
  | none => c
  | some e =>
    match e.period with
    | .quiet => c
    | .transmit => c
    | .window collected =>
      let frame := collected ++ [b]
      if frame.length ≥ e.function.replyLength then c.frameHeld e frame
      else { c with line := some { e with period := .window frame } }

/-- R125: the quiet period ends. -/
def Ctl.quietEnd (c : Ctl) : Ctl :=
  match c.line with
  | none => c
  | some e =>
    match e.period with
    | .quiet =>
      let t := max c.now (e.since + e.settings.quiet)
      { c with now := t, line := some { e with period := .transmit, since := t } }
    | .transmit => c
    | .window _ => c

/-- R124: the milliseconds a request takes on the line, 10 bit times a byte. -/
def Exchange.transmitTime (e : Exchange) : Nat := e.function.requestLength * 10000 / e.settings.speed

/-- R125: the request has been sent, and the reply window opens. -/
def Ctl.transmitDone (c : Ctl) : Ctl :=
  match c.line with
  | none => c
  | some e =>
    match e.period with
    | .transmit =>
      let t := max c.now (e.since + e.transmitTime)
      { c with now := t, line := some { e with period := .window [], since := t } }
    | .quiet => c
    | .window _ => c

/-- R125: the reply window runs out. -/
def Ctl.windowExpiry (c : Ctl) : Ctl :=
  match c.line with
  | none => c
  | some e =>
    match e.period with
    | .window _ => { c with now := max c.now (e.since + e.settings.window) }.attemptFailed e .noReply
    | .quiet => c
    | .transmit => c

/-- R131: a station's read due time arrives, and the arbiter is run on an idle line. -/
def Ctl.readDueArrives (c : Ctl) (d : DistrictId) : Ctl :=
  match c.station d with
  | some s => { c with now := max c.now s.readDue }.arbiter
  | none => c

/-! ### Set-point writes of the Programme Unit (R134) -/

/-- R117, R134: a write posted replaces the pending value, and the arbiter is run on an idle line. -/
def Ctl.postWrite (c : Ctl) (d : DistrictId) (v : Nat) : Ctl :=
  (c.modStation d fun s => { s with pendingWrite := some v }).arbiter

/-- R117, R134: a pending write withdrawn. -/
def Ctl.withdrawWrite (c : Ctl) (d : DistrictId) : Ctl := c.modStation d fun s => { s with pendingWrite := none }

/-! ### Definitions and removals (R131, R140) -/

/-- R140: an exchange with the district's station goes on, and its outcome will be discarded. -/
def Ctl.orphanExchange (c : Ctl) (d : DistrictId) : Ctl :=
  { c with line := c.line.map fun e => if e.served == .district d then { e with orphan := true } else e }

/-- R131, R140: a new poll interval moves the read due time; the pending write becomes none. DESIGN CHOICE (log 43): a
station that has had no READ POINTS started since its creation keeps its read due time. -/
def StationRec.redefine (s : StationRec) (pollInterval : Nat) : StationRec :=
  { s with
    pollInterval := pollInterval
    readDue := match s.lastRead with
      | some t => t + 1000 * pollInterval
      | none => s.readDue
    pendingWrite := none }

/-- R140: a reset to UNPOLLED from RESPONDING or SILENT posts a STATION notice; leaving SILENT is reported. -/
def Ctl.stationReset (c : Ctl) (d : DistrictId) (address pollInterval : Nat) (before : StationState) : Ctl :=
  let c' := (c.modStation d fun _ => createdStation address pollInterval c.now).orphanExchange d
  let note : NoticeContent := .station
    { district := d, address := address, before := before, after := .unpolled, function := none, failure := none }
  match before with
  | .unpolled => c'
  | .responding => c'.post note
  | .silent => (c'.holdSilent d false).post note

/-- R140: a definition applied to a defined district. -/
def Ctl.stationRedefined (c : Ctl) (d : DistrictId) (address pollInterval : Nat) : Ctl :=
  match c.station d with
  | none => c
  | some s =>
    if s.address == address then c.modStation d fun s => s.redefine pollInterval
    else c.stationReset d address pollInterval s.state

/-! ### Warm restart (R142) -/

/-- R142: the exchange on the line and every pending write are dropped, and a pass-through is answered BUSY. -/
def Ctl.dropPollerWork (c : Ctl) : Ctl :=
  let drop (r : DistrictRec) : DistrictRec :=
    { r with station := { r.station with pendingWrite := none, writeInFlight := none } }
  let c' := { c with
    line := none
    districts := ⟨c.districts.d1.map drop, c.districts.d2.map drop, c.districts.d3.map drop⟩ }
  c'.endPass .busy .nothing

/-! ### Requests -/

/-- R136, R198: the state of the pass-through slot. -/
def Ctl.passState (c : Ctl) : PassState :=
  match c.pass with
  | none => .empty
  | some p => if p.inFlight then .inFlight else .waiting

/-- R136, R138: the pass-through slot as shown. -/
def Ctl.passView (c : Ctl) : PassView :=
  match c.pass with
  | none => .empty
  | some p => if p.inFlight then .inFlight p.address else .waiting p.address

/-- R138: the exchange on the line as shown. -/
def Exchange.view (e : Exchange) : LineView := { function := e.function, served := e.served, attempt := e.attempt }

/-- R138: the content of STATION STATUS. -/
def Ctl.stationView (c : Ctl) (s : StationRec) : StationStatusReply :=
  { address := s.address, pollInterval := s.pollInterval, state := s.state, lastGood := s.lastGood
    lastFailure := s.lastFailure, due := s.readDue ≤ c.now
    seconds := if s.readDue ≤ c.now then (c.now - s.readDue) / 1000 else (s.readDue - c.now) / 1000
    slot0 := s.slot0, slot1 := s.slot1, slot2 := s.slot2, slot3 := s.slot3
    pendingWrite := s.pendingWrite, writeInFlight := s.writeInFlight, line := c.line.map Exchange.view
    pass := c.passView }

/-- R138: STATION STATUS. -/
def Ctl.stationStatus (c : Ctl) (tag : Byte) (body : List Byte) : Ctl :=
  match parseDistrict body with
  | .error r => c.refuse 0x24#8 tag r
  | .ok d =>
    match c.station d with
    | none => c.refuse 0x24#8 tag .notDefined
    | some s => c.reply 0x24#8 tag .done (.stationStatus (c.stationView s))

/-- R139: CLEAR STATION MARKS. -/
def Ctl.clearStationMarks (c : Ctl) (tag : Byte) (body : List Byte) : Ctl :=
  match parseDistrict body with
  | .error r => c.refuse 0x25#8 tag r
  | .ok d =>
    match c.station d with
    | none => c.refuse 0x25#8 tag .notDefined
    | some s =>
      (c.modStation d fun s => { s with
        slot0 := s.slot0.clearOverflow, slot1 := s.slot1.clearOverflow
        slot2 := s.slot2.clearOverflow, slot3 := s.slot3.clearOverflow }).reply 0x25#8 tag .done
          (.marks s.slot0.overflow s.slot1.overflow s.slot2.overflow s.slot3.overflow)

/-- R136: STATION PASS. -/
def Ctl.stationPass (c : Ctl) (tag : Byte) (body : List Byte) : Ctl :=
  match parseStationPass body with
  | .error r => c.refuse passKind tag r
  | .ok a =>
    if c.pass.isSome then c.refuse passKind tag .busy
    else { c with pass := some { address := a, tag := tag, inFlight := false, lastFailure := none } }.arbiter

end Sys2Proof.Machine
end

