-- ==== Sys2Proof/Machine/Accounts.lean ====
section
/-! DEFINITION. The Accounts Unit (chapter 8): the yard clock, the open periods and their closes, the stores and their
cursors, the running totals, and the accounts requests. -/

namespace Sys2Proof.Machine

/-! ### Totals (R150 to R152) -/

/-- R152: an addition to a total, and whether it was kept at the limit. -/
def addTotal (total add : Nat) : Nat × Bool :=
  if total + add > Config.totalMax then (Config.totalMax, true) else (total + add, false)

/-- R150: gas made is added to the open hour. -/
def OpenHour.addMake (o : OpenHour) (litres : Nat) : OpenHour :=
  let (t, sat) := addTotal o.make litres
  { o with make := t, saturated := o.saturated || sat }

/-- R151: gas sent out to a district is added to the open hour. -/
def OpenHour.addSendOut (o : OpenHour) (d : DistrictId) (litres : Nat) : OpenHour :=
  let (t, sat) := addTotal (o.sendOut.get d) litres
  { o with sendOut := o.sendOut.put d t, saturated := o.saturated || sat }

/-- R150: a make pulse at the Accounts Unit. -/
def Ctl.countMake (c : Ctl) : Ctl :=
  { c with acc := { c.acc with hour := c.acc.hour.addMake c.settings.pulseWeight } }

/-- R151: the advance of a meter since the baseline, mod 2^24. -/
def meterAdvance (baseline value : Nat) : Nat := (value + Config.meterModulus - baseline) % Config.meterModulus

/-- R151: a count taken: it becomes the baseline, and its advance is added to the send-out. -/
def Accounts.takeCount (a : Accounts) (d : DistrictId) (weight value : Nat) : Accounts :=
  { a with
    baselines := a.baselines.put d (some value)
    hour := match a.baselines.get d with
      | some b => a.hour.addSendOut d (meterAdvance b value * weight)
      | none => a.hour }

/-- R151: slot 0 of a district's station is taken where it is fresh. -/
def Ctl.takeMeter (c : Ctl) (d : DistrictId) : Ctl :=
  match c.districts.get d with
  | none => c
  | some r =>
    match r.station.slot0.value with
    | none => c
    | some v =>
      if r.station.slot0.fresh then
        let c' := c.modStation d fun s => { s with slot0 := s.slot0.taken }
        { c' with acc := c'.acc.takeCount d r.defn.pulseWeight v }
      else c

/-- R148, R149, R151: slot 0 of each defined district is taken where fresh. -/
def Ctl.takeMeters (c : Ctl) : Ctl := allDistricts.foldl Ctl.takeMeter c

/-- R151: the baseline of a created or redefined district is none. -/
def Ctl.clearBaseline (c : Ctl) (d : DistrictId) : Ctl :=
  { c with acc := { c.acc with baselines := c.acc.baselines.put d none } }

/-! ### Stock at a close (R153) -/

/-- The stock of a holder, where its figures are present. -/
def Ctl.holderStock (c : Ctl) (h : HolderId) : Option Nat := ((c.holders.get h).bind HolderRec.figures).map Figures.stock

/-- R153: the sum of the stocks present of the holders listed. -/
def Ctl.stockTotal (c : Ctl) (listed : List HolderId) : Nat := (listed.map fun h => (c.holderStock h).getD 0).sum

/-- R153: the holder's disturbed mark. -/
def Ctl.holderDisturbed (c : Ctl) (h : HolderId) : Bool :=
  match c.holders.get h with
  | some r => r.disturbed
  | none => false

/-- R153: the holder has a suspect reason at its last sample. -/
def Ctl.holderSuspect (c : Ctl) (h : HolderId) : Bool :=
  match c.holders.get h with
  | some r => r.reasons.any
  | none => false

/-- R153: some holder listed is judged disturbed for the hour. -/
def Ctl.disturbedForHour (c : Ctl) (listed : List HolderId) : Bool :=
  listed.any fun h => c.holderDisturbed h || (c.holderStock h).isNone || c.acc.hour.opening.isNone

/-- R153: the close is doubtful. -/
def Ctl.doubtful (c : Ctl) (listed : List HolderId) : Bool :=
  listed.any fun h => (c.holderStock h).isNone || c.holderSuspect h

/-! ### The hour record (R155, R156) -/

/-- R155: the send-out list of the districts defined. -/
def Ctl.sendOutList (c : Ctl) (totals : PerDistrict Nat) : List (DistrictId × Nat) :=
  c.definedDistricts.map fun d => (d, totals.get d)

/-- The sum of a send-out list. -/
def sendOutSum (l : List (DistrictId × Nat)) : Nat := (l.map Prod.snd).sum

/-- R156: the marks of the open hour at a close. -/
def Ctl.hourMarks (c : Ctl) (listed : List HolderId) (early : Bool) : Marks :=
  let o := c.acc.hour
  { suspect := c.disturbedForHour listed || o.silenceSeen || o.openingDoubtful
    partialPeriod := early || o.openedEarly
    clockUnset := o.clockUnsetSeen
    saturated := o.saturated
    newBase := o.newBase }

/-- R155: close causes but REGULAR close early. -/
def CloseCause.early : CloseCause → Bool
  | .regular => false
  | .clockSet => true
  | .restart => true
  | .holder => true
  | .district => true

/-- R157 steps 1 and 2: the hour record. A pending opening total is set to the closing total (R154). -/
def Ctl.hourRecord (c : Ctl) (cause : CloseCause) (listed : List HolderId) : HourRecord :=
  let o := c.acc.hour
  let closing := c.stockTotal listed
  let opening := o.opening.getD closing
  let sends := c.sendOutList o.sendOut
  let change : Int := (closing : Int) - opening
  { number := o.number, day := c.acc.day.number, start := o.start, duration := o.duration, cause := cause
    marks := c.hourMarks listed cause.early, make := o.make, sendOuts := sends, opening := opening
    holders := listed.map fun h => (h, c.holderStock h)
    closing := closing, change := change, unaccounted := (o.make : Int) - sendOutSum sends - change }

/-! ### The open day (R158) -/

/-- R158: marks combined. -/
def Marks.join (a b : Marks) : Marks :=
  { suspect := a.suspect || b.suspect, partialPeriod := a.partialPeriod || b.partialPeriod
    clockUnset := a.clockUnset || b.clockUnset, saturated := a.saturated || b.saturated
    newBase := a.newBase || b.newBase }

/-- R152, R158: one listed send-out added to the day. -/
def OpenDay.addSendOut (o : OpenDay) (e : DistrictId × Nat) : OpenDay :=
  let (t, sat) := addTotal (o.sendOut.get e.1) e.2
  { o with sendOut := o.sendOut.put e.1 t, marks := { o.marks with saturated := o.marks.saturated || sat } }

/-- R152, R158: an hour's make added to the day. -/
def OpenDay.addMake (o : OpenDay) (litres : Nat) : OpenDay :=
  let (t, sat) := addTotal o.make litres
  { o with make := t, marks := { o.marks with saturated := o.marks.saturated || sat } }

/-- R157 step 3, R158: the figures of a closed hour gathered into the open day. -/
def OpenDay.gather (o : OpenDay) (r : HourRecord) : OpenDay :=
  let o1 := r.sendOuts.foldl OpenDay.addSendOut
    ({ o with marks := o.marks.join r.marks }.addMake r.make)
  { o1 with
    hoursClosed := o.hoursClosed + 1
    opening := if o.hoursClosed == 0 then some r.opening else o.opening
    closing := r.closing
    change := o.change + r.change }

/-- R158, R159: the day record of the open day. -/
def Ctl.dayRecord (c : Ctl) (o : OpenDay) (cause : CloseCause) : DayRecord :=
  let sends := c.sendOutList o.sendOut
  { number := o.number, start := o.start, duration := o.duration, cause := cause, marks := o.marks, make := o.make
    sendOuts := sends, opening := o.opening.getD 0, closing := o.closing, change := o.change
    unaccounted := (o.make : Int) - sendOutSum sends - o.change }

/-! ### The stores (R160, R161) -/

/-- R160, R161: a record appended to a store of a full number, with the cursor after it. -/
def appendRecord {α : Type} (number : α → Nat) (full : Nat) (l : List α) (cursor : Nat) (r : α) : List α × Nat :=
  if l.length < full then (l ++ [r], cursor)
  else
    match l with
    | [] => ([r], cursor)
    | oldest :: rest =>
      (rest ++ [r], if cursor == number oldest then ((rest ++ [r]).head?.map number).getD cursor else cursor)

/-- R157 step 4: the hour record joins the hour store. -/
def Ctl.storeHour (c : Ctl) (r : HourRecord) : Ctl :=
  let (l, cursor) := appendRecord HourRecord.number Config.hourStoreMax c.acc.hours c.acc.hourCursor r
  { c with acc := { c.acc with hours := l, hourCursor := cursor } }

/-- R159: the day record joins the day store. -/
def Ctl.storeDay (c : Ctl) (r : DayRecord) : Ctl :=
  let (l, cursor) := appendRecord DayRecord.number Config.dayStoreMax c.acc.days c.acc.dayCursor r
  { c with acc := { c.acc with days := l, dayCursor := cursor } }

/-- R165: the PERIOD notice of an hour. -/
def hourNote (r : HourRecord) : NoticeContent :=
  .period { kind := .hour, number := r.number, start := r.start, duration := r.duration, cause := r.cause
            marks := r.marks, make := r.make, sendOutSum := sendOutSum r.sendOuts, opening := r.opening
            closing := r.closing, change := r.change, unaccounted := r.unaccounted }

/-- R165: the PERIOD notice of a day. -/
def dayNote (r : DayRecord) : NoticeContent :=
  .period { kind := .day, number := r.number, start := r.start, duration := r.duration, cause := r.cause
            marks := r.marks, make := r.make, sendOutSum := sendOutSum r.sendOuts, opening := r.opening
            closing := r.closing, change := r.change, unaccounted := r.unaccounted }

/-! ### Closes (R147, R149, R154, R157, R159) -/

/-- The moment a new period opens at: its yard minute, and whether the clock is then set. They differ from the clock
only at a SET CLOCK (R145). -/
structure Opening where
  minute : Nat
  clockSet : Bool
  deriving DecidableEq, Repr

/-- The moment of the clock as it stands. -/
def Ctl.openingNow (c : Ctl) : Opening := { minute := c.clock.minute, clockSet := c.clock.isSet }

/-- R147: some district's station is held SILENT. -/
def PerDistrict.anySilent (p : PerDistrict Bool) : Bool := p.d1 || p.d2 || p.d3

/-- R154: a close by a holder definition or a removal opens a new base. -/
def CloseCause.newBase : CloseCause → Bool
  | .holder => true
  | .regular => false
  | .clockSet => false
  | .restart => false
  | .district => false

/-- R147, R154, R157 step 6: the hour opened after a record. -/
def Ctl.nextHour (c : Ctl) (r : HourRecord) (doubt : Bool) (at_ : Opening) : OpenHour :=
  { number := c.acc.hour.number + 1
    start := at_.minute
    duration := 0
    openedEarly := r.cause.early
    clockUnsetSeen := !at_.clockSet
    silenceSeen := PerDistrict.anySilent c.acc.silent
    openingDoubtful := doubt && !r.cause.newBase
    saturated := false
    newBase := r.cause.newBase
    make := 0
    sendOut := ⟨0, 0, 0⟩
    opening := if r.cause.newBase then none else some r.closing }

/-- R41, R153: the disturbed marks read at a close are cleared. -/
def Ctl.clearDisturbed (c : Ctl) (listed : List HolderId) : Ctl :=
  listed.foldl (fun c h => c.modHolder h fun r => { r with disturbed := false }) c

/-- R157: the open hour closes and a new hour opens at a moment. -/
def Ctl.closeHour (c : Ctl) (cause : CloseCause) (listed : List HolderId) (at_ : Opening) : Ctl :=
  let r := c.hourRecord cause listed
  let next := c.nextHour r (c.doubtful listed) at_
  let c1 := c.clearDisturbed listed
  let c2 := ({ c1 with acc := { c1.acc with day := c1.acc.day.gather r } }.storeHour r).post (hourNote r)
  { c2 with acc := { c2.acc with hour := next } }

/-- R159: the open day closes and a new day opens at a moment. -/
def Ctl.closeDay (c : Ctl) (cause : CloseCause) (at_ : Opening) : Ctl :=
  let r := c.dayRecord c.acc.day cause
  let c2 := (c.storeDay r).post (dayNote r)
  { c2 with acc := { c2.acc with day :=
      { OpenDay.reset with number := c.acc.day.number + 1, start := at_.minute } } }

/-- R149: an early close of the open hour and, where asked, the open day; slot 0 is first taken where fresh. -/
def Ctl.closeEarly (c : Ctl) (cause : CloseCause) (listed : List HolderId) (at_ : Opening) (dayToo : Bool) : Ctl :=
  let c1 := c.takeMeters.closeHour cause listed at_
  if dayToo then c1.closeDay cause at_ else c1

/-! ### The minute event (R148) -/

/-- R143, R148 step 1: the yard minute advances and the durations are counted. -/
def Ctl.minutePasses (c : Ctl) : Ctl :=
  { c with clock := { c.clock with minute := c.clock.minute + 1, second := 0 } }

/-- R148 step 1. -/
def Ctl.countDurations (c : Ctl) : Ctl :=
  { c with acc := { c.acc with
      hour := { c.acc.hour with duration := c.acc.hour.duration + 1 }
      day := { c.acc.day with duration := c.acc.day.duration + 1 } } }

/-- R148 step 3, R154: a pending opening total is formed where every defined holder has its figures present. -/
def Ctl.formOpening (c : Ctl) : Ctl :=
  if c.acc.hour.opening.isNone && c.definedHolders.all fun h => (c.holderStock h).isSome then
    { c with acc := { c.acc with hour := { c.acc.hour with opening := some (c.stockTotal c.definedHolders) } } }
  else c

/-- R143: the hour of a yard minute begins at it. -/
def wholeHour (minute : Nat) : Bool := minute % 60 == 0

/-- R146: the time of day of a yard minute is the day-start hour on the hour. -/
def dayStarts (minute dayStart : Nat) : Bool := minute % 1440 == dayStart * 60

/-- R146, R185: from a minute event on, the day-start hour in use is that of the yard definition in force. -/
def Ctl.takeDayStart (c : Ctl) : Ctl := { c with acc := { c.acc with dayStart := c.settings.dayStart } }

/-- R148: the minute event at the Accounts Unit. -/
def Ctl.accountsMinute (c : Ctl) : Ctl :=
  let c3 := c.takeDayStart.countDurations.takeMeters.formOpening
  let c4 := if wholeHour c3.clock.minute then c3.closeHour .regular c3.definedHolders c3.openingNow else c3
  if dayStarts c4.clock.minute c4.acc.dayStart then c4.closeDay .regular c4.openingNow else c4

/-! ### SET CLOCK (R144 to R146) -/

/-- R146: the gas day of a yard minute, as a number that two moments of one gas day share. -/
def gasDay (minute dayStart : Nat) : Nat := (minute + 1440 - dayStart * 60) / 1440

/-- R145: what an accepted SET CLOCK closes: nothing, the hour, or the hour and the day. -/
inductive ClockClose where
  | nothing
  | hour
  | hourAndDay
  deriving DecidableEq, Repr

/-- R145: the closes of a setting to a yard minute; the gas day is judged with the day-start hour in use (R146). -/
def Ctl.clockCloses (c : Ctl) (minute : Nat) : ClockClose :=
  if !c.clock.isSet then .hourAndDay
  else if gasDay minute c.acc.dayStart != gasDay c.clock.minute c.acc.dayStart then .hourAndDay
  else if minute / 60 != c.clock.minute / 60 then .hour
  else .nothing

/-- R144: the clock set to a time. -/
def Ctl.setTime (c : Ctl) (minute second : Nat) : Ctl :=
  { c with clock := { minute := minute, second := second, isSet := true } }

/-- R144: SET CLOCK. -/
def Ctl.setClock (c : Ctl) (tag : Byte) (body : List Byte) : Ctl :=
  match parseSetClock body with
  | .error r => c.refuse 0x06#8 tag r
  | .ok t =>
    let at_ : Opening := { minute := t.yardMinute, clockSet := true }
    let hour := c.acc.hour.number
    let day := c.acc.day.number
    match c.clockCloses t.yardMinute with
    | .nothing =>
      (c.setTime t.yardMinute t.second).reply 0x06#8 tag .done (.setClock t.yardMinute t.second none none)
    | .hour =>
      ((c.closeEarly .clockSet c.definedHolders at_ false).setTime t.yardMinute t.second).reply 0x06#8 tag .done
        (.setClock t.yardMinute t.second (some hour) none)
    | .hourAndDay =>
      ((c.closeEarly .clockSet c.definedHolders at_ true).setTime t.yardMinute t.second).reply 0x06#8 tag .done
        (.setClock t.yardMinute t.second (some hour) (some day))

/-! ### Reading the stores (R162, R163) -/

/-- R161, R162: READ HOUR RECORD. The write position is the open hour's number. -/
def Ctl.readHour (c : Ctl) (tag : Byte) (_body : List Byte) : Ctl :=
  match c.acc.hours.find? fun r => r.number == c.acc.hourCursor with
  | some r =>
    { c with acc := { c.acc with hourCursor := c.acc.hourCursor + 1 } }.reply 0x28#8 tag .done (.hourRecord r)
  | none => c.reply 0x28#8 tag .empty (.writePosition c.acc.hour.number)

/-- R161, R162: READ DAY RECORD. The write position is the open day's number. -/
def Ctl.readDay (c : Ctl) (tag : Byte) (_body : List Byte) : Ctl :=
  match c.acc.days.find? fun r => r.number == c.acc.dayCursor with
  | some r =>
    { c with acc := { c.acc with dayCursor := c.acc.dayCursor + 1 } }.reply 0x29#8 tag .done (.dayRecord r)
  | none => c.reply 0x29#8 tag .empty (.writePosition c.acc.day.number)

/-- R163: where REWIND HOURS moves the cursor. -/
def Accounts.rewoundHour (a : Accounts) : Nat :=
  match a.hours.find? fun r => r.day == a.day.number with
  | some r => r.number
  | none =>
    match a.hours with
    | r :: _ => r.number
    | [] => a.hour.number

/-- R163: where REWIND DAYS moves the cursor. -/
def Accounts.rewoundDay (a : Accounts) : Nat :=
  match a.days with
  | r :: _ => r.number
  | [] => a.day.number

/-- R163: REWIND HOURS. -/
def Ctl.rewindHours (c : Ctl) (tag : Byte) (_body : List Byte) : Ctl :=
  { c with acc := { c.acc with hourCursor := c.acc.rewoundHour } }.reply 0x2A#8 tag .done (.cursor c.acc.rewoundHour)

/-- R163: REWIND DAYS. -/
def Ctl.rewindDays (c : Ctl) (tag : Byte) (_body : List Byte) : Ctl :=
  { c with acc := { c.acc with dayCursor := c.acc.rewoundDay } }.reply 0x2B#8 tag .done (.cursor c.acc.rewoundDay)

/-! ### Running totals (R164) -/

/-- R164: the record the open hour would make if it closed now. Closing now is early (log 18). -/
def Ctl.runningHour (c : Ctl) : HourRecord := c.hourRecord .clockSet c.definedHolders

/-- R164: the open day with the open hour's running figures. -/
def Ctl.runningDay (c : Ctl) : OpenDay := c.acc.day.gather c.runningHour

/-- R164: the opening total of the day so far, or its pending mark. -/
def Ctl.runningDayOpening (c : Ctl) : Option Nat :=
  if c.acc.day.hoursClosed == 0 then c.acc.hour.opening else c.acc.day.opening

/-- R164: the content of RUNNING TOTALS. -/
def Ctl.runningReply (c : Ctl) : RunningReply :=
  let h := c.runningHour
  let d := c.dayRecord c.runningDay .clockSet
  { hourNumber := h.number, dayNumber := h.day, start := h.start, duration := h.duration, make := h.make
    sendOuts := h.sendOuts, opening := c.acc.hour.opening, stock := h.closing, change := h.change
    unaccounted := h.unaccounted, marks := h.marks, dayStart := d.start, dayDuration := d.duration
    dayMarks := d.marks, dayMake := d.make, daySendOuts := d.sendOuts, dayOpening := c.runningDayOpening
    dayClosing := d.closing, dayChange := d.change, dayUnaccounted := d.unaccounted }

/-- R164: RUNNING TOTALS. -/
def Ctl.runningTotals (c : Ctl) (tag : Byte) (_body : List Byte) : Ctl :=
  c.reply 0x2C#8 tag .done (.running c.runningReply)

/-! ### STORE CLEAR (R166) -/

/-- R166: the accounts after STORE CLEAR, at the moment of the clear; no yard definition is in force, and the day-start
hour is 6. -/
def Accounts.cleared (at_ : Opening) : Accounts :=
  { Accounts.reset with
    hour := { OpenHour.reset with start := at_.minute, openedEarly := true, clockUnsetSeen := !at_.clockSet }
    day := { OpenDay.reset with start := at_.minute } }

end Sys2Proof.Machine
end

