-- ==== Sys2Proof/Machine/Programme.lean ====
section
/-! DEFINITION. The Programme Unit (chapters 5 and 6): the programme ring and its requests, the minute event, starvation,
the ceiling, the booster, the effective set-point, the low-pressure check, and the district requests. -/

namespace Sys2Proof.Machine

/-! ### The ring (R90, R91) -/

/-- R91: the entry at an index. -/
def Programme.entry (p : Programme) (i : Nat) : Option Step := (p.ring[i]?).join

/-- R91: the entries from one index forward, mod 16, to another. -/
def ringRange (first last : Nat) : List Nat :=
  (List.range ((last + Config.ringSize - first) % Config.ringSize + 1)).map fun k => (first + k) % Config.ringSize

/-- R95, R101: every entry from one index forward to another is written. -/
def Programme.rangeWritten (p : Programme) (first last : Nat) : Bool :=
  (ringRange first last).all fun i => (p.entry i).isSome

/-- R101: the wrap would be taken: every entry from RS forward to LI is written. -/
def Programme.wrapTaken (p : Programme) (last : Nat) : Bool := p.repeats && p.rangeWritten p.repeatStart last

/-- R91: the next committed step. -/
def Programme.nextCommitted (p : Programme) : Option Nat :=
  match p.last with
  | none => none
  | some last =>
    if p.current != last then some ((p.current + 1) % Config.ringSize)
    else if p.wrapTaken last then some p.repeatStart
    else none

/-- The hold of an entry. -/
def Programme.holdAt (p : Programme) (i : Nat) : Nat :=
  match p.entry i with
  | some e => e.hold
  | none => 0

/-- R90: the underlying state; none in IDLE. -/
def Programme.underlying (p : Programme) : Option ProgState :=
  match p.state with
  | .idle => none
  | .running => some .running
  | .endHold => some .endHold
  | .starved => p.beforeStarve
  | .paused => if p.beforePause == some .starved then p.beforeStarve else p.beforePause

/-- R104: RUNNING or END-HOLD. -/
def ProgState.runs : ProgState → Bool
  | .running => true
  | .endHold => true
  | .idle => false
  | .paused => false
  | .starved => false

/-- R99, R107: the cleared condition. -/
def Programme.cleared (minimum : Nat) : Programme :=
  { ring := List.replicate Config.ringSize none, current := 0, last := none, repeats := false, repeatStart := 0
    remaining := 0, setPoint := minimum, state := .idle, beforePause := none, beforeStarve := none, starvingTrip := none }

/-- R92: the programme summary. -/
def Programme.summary (p : Programme) : Summary :=
  { state := p.state, current := p.current, last := p.last, repeats := p.repeats, repeatStart := p.repeatStart
    remaining := p.remaining, setPoint := p.setPoint }

/-- R109: no slot used. -/
def SlotsUsed.nothing : SlotsUsed := ⟨none, none, none⟩

/-- R88 step 2, R107, R122, R140: a district record as created at a moment, with its station record. -/
def createdDistrict (d : DistrictDef) (now : Nat) : DistrictRec :=
  { defn := d, prog := Programme.cleared d.minimum, loss := d.lossAllowance, boosterCalled := false, boosterRun := 0
    boosterReason := none, short := false, lowCount := 0, lowReported := false, confirmed := none, openingWrite := false
    figures := none, slotsUsed := SlotsUsed.nothing, station := createdStation d.address d.pollInterval now }

/-- Changes the programme of a district where it is defined. -/
def Ctl.modProg (c : Ctl) (d : DistrictId) (f : Programme → Programme) : Ctl :=
  c.modDistrict d fun r => { r with prog := f r.prog }

/-! ### Notices (R106, R120) -/

/-- R106: a PROGRAMME notice of a programme as it stands after an event. -/
def progNote (d : DistrictId) (p : Programme) (event : ProgEvent) (refused : Bool) (h : Option HolderId)
    (trip : Option TripKind) : NoticeContent :=
  .programme { district := d, event := event, state := p.state, current := p.current, last := p.last
               repeats := p.repeats, repeatStart := p.repeatStart, remaining := p.remaining, setPoint := p.setPoint
               repeatRefused := refused, holder := h, trip := trip }

/-- R120: a PRESSURE notice of a district record as it stands after an event. -/
def pressureNote (d : DistrictId) (r : DistrictRec) (event : PressureEvent) : NoticeContent :=
  .pressure { district := d, event := event, state := r.prog.state, setPoint := r.prog.setPoint, figures := r.figures
              boosterCalled := r.boosterCalled, short := r.short }

/-- R115: the booster released. -/
def DistrictRec.releaseBooster (r : DistrictRec) : DistrictRec := { r with boosterCalled := false, boosterRun := 0 }

/-! ### Requests on the ring (R92 to R96) -/

/-- R92: the reply DONE that carries the programme summary. -/
def Ctl.replySummary (c : Ctl) (kind tag : Byte) (p : Programme) : Ctl := c.reply kind tag .done (.summary p.summary)

/-- R92: a change of a district's programme, answered DONE with the summary after it. -/
def Ctl.changeProgramme (c : Ctl) (kind tag : Byte) (d : DistrictId) (p : Programme) : Ctl :=
  (c.modProg d fun _ => p).replySummary kind tag p

/-- R93: an entry becomes written. -/
def Programme.writeEntry (p : Programme) (i : Nat) (e : Step) : Programme := { p with ring := p.ring.set i (some e) }

/-- R92, R93: WRITE STEP. -/
def Ctl.writeStep (c : Ctl) (tag : Byte) (body : List Byte) : Ctl :=
  match parseWriteStep body with
  | .error r => c.refuse 0x1B#8 tag r
  | .ok w =>
    match c.districts.get w.district with
    | none => c.refuse 0x1B#8 tag .notDefined
    | some r =>
      if r.prog.state != .idle && w.index == r.prog.current then c.refuse 0x1B#8 tag .wrongState
      else c.changeProgramme 0x1B#8 tag w.district (r.prog.writeEntry w.index w.entry)

/-- R94: the four marks of an index. -/
def Programme.marksOf (p : Programme) (i : Nat) : StepMarks :=
  { isCurrent := i == p.current
    isLast := p.last == some i
    committed := match p.last with
      | some last => (ringRange p.current last).contains i
      | none => false
    isRepeatStart := i == p.repeatStart }

/-- R92, R94: READ STEP. -/
def Ctl.readStep (c : Ctl) (tag : Byte) (body : List Byte) : Ctl :=
  match parseStepIndex body with
  | .error r => c.refuse 0x1C#8 tag r
  | .ok (d, i) =>
    match c.districts.get d with
    | none => c.refuse 0x1C#8 tag .notDefined
    | some r => c.reply 0x1C#8 tag .done (.stepEntry (r.prog.entry i) (r.prog.marksOf i))

/-- R95: END-HOLD, as the state or the underlying state, is left for RUNNING. -/
def Programme.leaveEndHold (p : Programme) : Programme :=
  match p.state with
  | .endHold => { p with state := .running }
  | .starved => { p with beforeStarve := some .running }
  | .paused =>
    if p.beforePause == some .starved then { p with beforeStarve := some .running }
    else { p with beforePause := some .running }
  | .idle => p
  | .running => p

/-- R95: what SET LAST STEP makes of a programme whose range is written. -/
def Programme.setLast (p : Programme) (j : Nat) : Programme :=
  let p' := { p with last := some j }
  if p.underlying == some .endHold && j != p.current then
    let next := (p.current + 1) % Config.ringSize
    { p'.leaveEndHold with current := next, remaining := p.holdAt next }
  else p'

/-- R92, R95: SET LAST STEP. -/
def Ctl.setLastStep (c : Ctl) (tag : Byte) (body : List Byte) : Ctl :=
  match parseStepIndex body with
  | .error r => c.refuse 0x1D#8 tag r
  | .ok (d, j) =>
    match c.districts.get d with
    | none => c.refuse 0x1D#8 tag .notDefined
    | some r =>
      if r.prog.rangeWritten r.prog.current j then c.changeProgramme 0x1D#8 tag d (r.prog.setLast j)
      else c.refuse 0x1D#8 tag .notDefined

/-- R92, R96: SET REPEAT. -/
def Ctl.setRepeat (c : Ctl) (tag : Byte) (body : List Byte) : Ctl :=
  match parseSetRepeat body with
  | .error r => c.refuse 0x21#8 tag r
  | .ok (d, flag, rs) =>
    match c.districts.get d with
    | none => c.refuse 0x21#8 tag .notDefined
    | some r => c.changeProgramme 0x21#8 tag d { r.prog with repeats := flag, repeatStart := rs }

/-! ### Running, pausing, clearing (R97 to R99) -/

/-- R97: a programme started from IDLE. -/
def Programme.start (p : Programme) (minimum : Nat) : Programme :=
  { p with state := .running, current := 0, remaining := p.holdAt 0, setPoint := minimum }

/-- R97: a programme run from PAUSED while an outlet is commanded OPEN. -/
def Programme.resume (p : Programme) (underlying : ProgState) : Programme :=
  { p with state := underlying, beforePause := none, beforeStarve := none, starvingTrip := none }

/-- R97: a programme run from PAUSED while no outlet is commanded OPEN. -/
def Programme.resumeStarved (p : Programme) (underlying : ProgState) : Programme :=
  { p with state := .starved, beforePause := none, beforeStarve := some underlying }

/-- R97: PROGRAMME RUN from IDLE; it also sets the opening write mark (R117). -/
def Ctl.runFromIdle (c : Ctl) (tag : Byte) (d : DistrictId) (r : DistrictRec) : Ctl :=
  if r.prog.last.isNone then c.refuse 0x1E#8 tag .notDefined
  else if c.anyCommandedOpen .outlet then
    let p := r.prog.start r.defn.minimum
    (c.modDistrict d fun r => { r with prog := p, openingWrite := true }).replySummary 0x1E#8 tag p
  else c.refuse 0x1E#8 tag .interlock

/-- R97: PROGRAMME RUN from PAUSED. DESIGN CHOICE (log 41): where it goes to STARVED, a booster kept called through the
pause stays called, with its run. -/
def Ctl.runFromPaused (c : Ctl) (tag : Byte) (d : DistrictId) (r : DistrictRec) : Ctl :=
  let u := r.prog.underlying.getD .running
  c.changeProgramme 0x1E#8 tag d
    (if c.anyCommandedOpen .outlet then r.prog.resume u else r.prog.resumeStarved u)

/-- R92, R97: PROGRAMME RUN. -/
def Ctl.programmeRun (c : Ctl) (tag : Byte) (body : List Byte) : Ctl :=
  match parseDistrict body with
  | .error r => c.refuse 0x1E#8 tag r
  | .ok d =>
    match c.districts.get d with
    | none => c.refuse 0x1E#8 tag .notDefined
    | some r =>
      if c.districtReserved d then c.refuse 0x1E#8 tag .busy
      else
        match r.prog.state with
        | .idle => c.runFromIdle tag d r
        | .paused => c.runFromPaused tag d r
        | .running => c.refuse 0x1E#8 tag .wrongState
        | .endHold => c.refuse 0x1E#8 tag .wrongState
        | .starved => c.refuse 0x1E#8 tag .wrongState

/-- R98: a RUNNING, END-HOLD or STARVED programme becomes PAUSED. -/
def Programme.pause (p : Programme) : Programme := { p with state := .paused, beforePause := some p.state }

/-- R98: the states a pause is taken in. -/
def ProgState.pausable : ProgState → Bool
  | .running => true
  | .endHold => true
  | .starved => true
  | .idle => false
  | .paused => false

/-- R92, R98: PROGRAMME PAUSE. -/
def Ctl.programmePause (c : Ctl) (tag : Byte) (body : List Byte) : Ctl :=
  match parseDistrict body with
  | .error r => c.refuse 0x1F#8 tag r
  | .ok d =>
    match c.districts.get d with
    | none => c.refuse 0x1F#8 tag .notDefined
    | some r =>
      if r.prog.state.pausable then c.changeProgramme 0x1F#8 tag d r.prog.pause
      else c.refuse 0x1F#8 tag .wrongState

/-- R99, R115, R122: a district cleared by PROGRAMME CLEAR. DESIGN CHOICE (log 53): a district that was PRESSURE SHORT is so
no longer, and no SHORT ENDED is posted. -/
def DistrictRec.clearProgramme (r : DistrictRec) : DistrictRec :=
  { r.releaseBooster with
    prog := Programme.cleared r.defn.minimum, short := false, lowCount := 0, lowReported := false, openingWrite := false }

/-- R115: the PRESSURE notice of a release outside the judgement, if the booster was called. -/
def Ctl.releaseNotice (c : Ctl) (d : DistrictId) (before after : DistrictRec) (cause : ReleaseCause) : Ctl :=
  if before.boosterCalled then c.post (pressureNote d after (.boosterReleased cause)) else c

/-- R92, R99: PROGRAMME CLEAR. -/
def Ctl.programmeClear (c : Ctl) (tag : Byte) (body : List Byte) : Ctl :=
  match parseDistrict body with
  | .error r => c.refuse 0x20#8 tag r
  | .ok d =>
    match c.districts.get d with
    | none => c.refuse 0x20#8 tag .notDefined
    | some r =>
      if r.prog.state == .idle || r.prog.state == .paused then
        let r' := r.clearProgramme
        ((c.putDistrict d (some r')).releaseNotice d r r' .cleared).replySummary 0x20#8 tag r'.prog
      else c.refuse 0x20#8 tag .wrongState

/-! ### Starvation (R104, R105, R115) -/

/-- R104, R115: a RUNNING or END-HOLD district goes STARVED by a holder's landing trip, its booster released. -/
def DistrictRec.starve (r : DistrictRec) (h : HolderId) : DistrictRec :=
  { r.releaseBooster with
    prog := { r.prog with state := .starved, beforeStarve := some r.prog.state, starvingTrip := some h } }

/-- R104: one district told that the last outlet has been lost; the release follows the PROGRAMME notice (R120). DESIGN
CHOICE (log 42): the release posts its notice only if the booster was called. -/
def Ctl.starveDistrict (h : HolderId) (c : Ctl) (d : DistrictId) : Ctl :=
  match c.districts.get d with
  | none => c
  | some r =>
    if r.prog.state.runs then
      let r' := r.starve h
      ((c.putDistrict d (some r')).post (progNote d r'.prog .starved false (some h) (some .landing))).releaseNotice
        d r r' .starved
    else c

/-- R104: the last outlet has been lost by a landing trip of a holder. DESIGN CHOICE (log 40): the districts are told in
the order D1, D2, D3. -/
def Ctl.starve (c : Ctl) (h : HolderId) : Ctl := allDistricts.foldl (Ctl.starveDistrict h) c

/-- R105: a STARVED programme returns to its state before starvation. -/
def Programme.restore (p : Programme) (before : ProgState) : Programme :=
  { p with state := before, beforeStarve := none, starvingTrip := none }

/-- R105: one district told that a holder's outlet has reached OPEN. -/
def Ctl.restoreDistrict (h : HolderId) (c : Ctl) (d : DistrictId) : Ctl :=
  match c.districts.get d with
  | none => c
  | some r =>
    if r.prog.state == .starved then
      match r.prog.beforeStarve with
      | some before =>
        let p := r.prog.restore before
        (c.modProg d fun _ => p).post (progNote d p .outletRestored false (some h) none)
      | none => c
    else c

/-- R105: one arrival ends the starvation of every STARVED programme. DESIGN CHOICE (log 40): in the order D1, D2, D3. -/
def Ctl.outletRestored (c : Ctl) (h : HolderId) : Ctl := allDistricts.foldl (Ctl.restoreDistrict h) c

/-! ### The programme's minute (R100 to R102) -/

/-- R100: S moves toward a target at a ramp; a ramp of 0 takes the target at once. -/
def rampToward (s target ramp : Nat) : Nat :=
  if ramp == 0 then target
  else if s < target then min (s + ramp) target
  else max (s - ramp) target

/-- R100: the move of S toward the target of entry CI. -/
def Programme.move (p : Programme) : Programme :=
  match p.entry p.current with
  | some e => { p with setPoint := rampToward p.setPoint e.target e.ramp }
  | none => p

/-- What the end of a step leaves: the programme, and the event of its PROGRAMME notice with the REPEAT REFUSED mark. -/
structure StepEnd where
  prog : Programme
  event : Option (ProgEvent × Bool)
  deriving DecidableEq, Repr

/-- R101 steps 2 to 4: what follows the step that has run its time. -/
def Programme.stepEnd (p : Programme) : StepEnd :=
  if p.last == some p.current then
    if p.wrapTaken p.current then
      { prog := { p with current := p.repeatStart, remaining := p.holdAt p.repeatStart }
        event := some (.cycleComplete, false) }
    else { prog := { p with state := .endHold, remaining := 0 }, event := some (.lastStepReached, p.repeats) }
  else
    let next := (p.current + 1) % Config.ringSize
    { prog := { p with current := next, remaining := p.holdAt next }, event := none }

/-- R101 step 1, R106: the STEP notice of the step that has ended. -/
def stepNote (d : DistrictId) (p after : Programme) (e : Step) : NoticeContent :=
  .step d p.current e.target p.setPoint (if after.state == .endHold then none else some after.current)

/-- R101: the notices of a step's end, the STEP notice first. -/
def Ctl.stepEndNotices (c : Ctl) (d : DistrictId) (p : Programme) (e : StepEnd) : Ctl :=
  let c1 := match p.entry p.current with
    | some entry => if entry.report then c.post (stepNote d p e.prog entry) else c
    | none => c
  match e.event with
  | some (event, refused) => c1.post (progNote d e.prog event refused none none)
  | none => c1

/-- R100, R101: the minute event of a RUNNING programme. -/
def Ctl.runningMinute (c : Ctl) (d : DistrictId) (p : Programme) : Ctl :=
  let p1 := { p.move with remaining := p.remaining - 1 }
  if p1.remaining == 0 then
    let e := p1.stepEnd
    (c.modProg d fun _ => e.prog).stepEndNotices d p1 e
  else c.modProg d fun _ => p1

/-- R100 to R102: the programme part of a district at a minute event. -/
def Ctl.programmeMinute (c : Ctl) (d : DistrictId) : Ctl :=
  match c.districts.get d with
  | none => c
  | some r =>
    match r.prog.state with
    | .running => c.runningMinute d r.prog
    | .endHold => c.modProg d Programme.move
    | .starved => c
    | .paused => c
    | .idle => c

/-! ### The minute's work (R109 to R119) -/

/-- R109 step 1: the reading a slot gives. -/
def Slot.use (s : Slot) : Option SlotUse := s.value.map fun v => { value := v, estimated := !s.fresh }

/-- R109: the value of a slot that was taken fresh. -/
def freshValue (u : Option SlotUse) : Option Nat := (u.filter fun s => !s.estimated).map SlotUse.value

/-- R109 step 1: slots 1 to 3 are taken. -/
def DistrictRec.takeSlots (r : DistrictRec) : DistrictRec :=
  { r with
    slotsUsed := { s1 := r.station.slot1.use, s2 := r.station.slot2.use, s3 := r.station.slot3.use }
    station := { r.station with slot1 := r.station.slot1.taken, slot2 := r.station.slot2.taken
                                slot3 := r.station.slot3.taken } }

/-- R110: the gauge pressure a holder puts into the main pressure. -/
def Ctl.mainOf (c : Ctl) (h : HolderId) : Nat :=
  match c.holders.get h with
  | none => 0
  | some r =>
    match r.figures with
    | some f => if r.outlet.state == .opened then f.pg else 0
    | none => 0

/-- R110: the main pressure M. -/
def Ctl.mainPressure (c : Ctl) : Nat := allHolders.foldl (fun m h => max m (c.mainOf h)) 0

/-- R111: the learned loss after a fresh slot 3. -/
def learnedLoss (loss main slot3 : Nat) : Nat := rounded (3 * loss + min 300 (main - slot3)) 4

/-- R111: the learned loss updated from the slots taken. -/
def DistrictRec.learn (r : DistrictRec) (main : Nat) : DistrictRec :=
  match freshValue r.slotsUsed.s3 with
  | some v => if main > 0 then { r with loss := learnedLoss r.loss main v } else r
  | none => r

/-- R111: the loss used. -/
def DistrictRec.lossUsed (r : DistrictRec) : Nat := max r.defn.lossAllowance r.loss

/-- R112: the ceiling C. -/
def DistrictRec.ceiling (r : DistrictRec) (main : Nat) : Nat := main - r.lossUsed

/-- R113: entry CI permits boost. -/
def Programme.boostPermitted (p : Programme) : Bool :=
  match p.entry p.current with
  | some e => e.boost
  | none => false

/-- R113: the look-ahead test. -/
def DistrictRec.lookAhead (r : DistrictRec) (ceiling : Nat) : Bool :=
  match r.prog.nextCommitted with
  | some i =>
    match r.prog.entry i with
    | some e => r.prog.state == .running && r.prog.remaining ≤ r.defn.boosterLead && e.boost && e.target > ceiling
    | none => false
  | none => false

/-- R113: the governor-wide test. -/
def DistrictRec.governorWide (r : DistrictRec) : Bool :=
  match freshValue r.slotsUsed.s2, freshValue r.slotsUsed.s1, r.confirmed with
  | some travel, some pressure, some ec => travel ≥ 95 && pressure + 10 < ec && r.prog.boostPermitted
  | _, _, _ => false

/-- R113: the first test that wants the booster. -/
def DistrictRec.wanted (r : DistrictRec) (ceiling : Nat) : Option BoosterReason :=
  if r.prog.setPoint > ceiling && r.prog.boostPermitted then some .currentStep
  else if r.lookAhead ceiling then some .lookAhead
  else if r.governorWide then some .governorWide
  else none

/-- R113, R114: the judgement of the booster of a district defined with one, and the event it makes. -/
def DistrictRec.judgeBooster (r : DistrictRec) (ceiling : Nat) : DistrictRec × Option PressureEvent :=
  let want := r.wanted ceiling
  let run := if r.boosterCalled then min (r.boosterRun + 1) Config.boosterRunMin else r.boosterRun
  let r' := { r with boosterReason := want, boosterRun := run }
  if r.boosterCalled then
    if want.isNone && run == Config.boosterRunMin then (r'.releaseBooster, some (.boosterReleased .minimumRunServed))
    else (r', none)
  else if want.isSome then ({ r' with boosterCalled := true, boosterRun := 0 }, some (.boosterCalled want))
  else (r', none)

/-- R113: step 5; a district without a booster judges none. -/
def DistrictRec.boosterStep (r : DistrictRec) (ceiling : Nat) : DistrictRec × Option PressureEvent :=
  if r.defn.booster then r.judgeBooster ceiling else (r, none)

/-- R116: a figure raised to the minimum and lowered to the maximum of a district. -/
def DistrictDef.clamp (d : DistrictDef) (n : Nat) : Nat := min d.maximum (max d.minimum n)

/-- R116: the effective set-point E. -/
def DistrictRec.effective (r : DistrictRec) (ceiling : Nat) : Nat :=
  r.defn.clamp (if r.boosterCalled then r.prog.setPoint else min r.prog.setPoint ceiling)

/-- R116: the district is PRESSURE SHORT. -/
def DistrictRec.isShort (r : DistrictRec) (ceiling : Nat) : Bool := r.prog.setPoint > ceiling && !r.boosterCalled

/-- R116: the event of a change of the short state. -/
def shortEvent (before after : Bool) : Option PressureEvent :=
  match before, after with
  | false, true => some .shortEntered
  | true, false => some .shortEnded
  | false, false => none
  | true, true => none

/-- R119: the low-pressure check of a fresh reading against the last confirmed set-point. -/
def DistrictRec.checkLow (r : DistrictRec) (reading ec : Nat) : DistrictRec × Option PressureEvent :=
  if reading + r.defn.tolerance < ec then
    let n := min (r.lowCount + 1) 3
    if n == 3 && !r.lowReported then
      ({ r with lowCount := n, lowReported := true },
        some (.low { slot1 := reading, confirmed := ec, tolerance := r.defn.tolerance }))
    else ({ r with lowCount := n }, none)
  else ({ r with lowCount := 0, lowReported := false }, none)

/-- R119: step 7; a stale or absent reading, or no confirmed set-point, changes nothing. -/
def DistrictRec.lowStep (r : DistrictRec) : DistrictRec × Option PressureEvent :=
  match freshValue r.slotsUsed.s1, r.confirmed with
  | some reading, some ec => r.checkLow reading ec
  | _, _ => (r, none)

/-- R117: what step 8 does. -/
inductive WriteAction where
  | post
  | withdraw
  | leave
  deriving DecidableEq, Repr

/-- R117, R118: the action of step 8. A pending write is withdrawn once E equals the last confirmed set-point, whatever
its value (log 32). -/
def writeAction (opening : Bool) (e : Nat) (confirmed pending : Option Nat) : WriteAction :=
  if opening then .post
  else if confirmed == some e then (if pending.isSome then .withdraw else .leave)
  else if pending == some e then .leave
  else .post

/-- What the minute's work makes of a record: the record with its figures, E, and the events of steps 5 to 7 in their
order. -/
structure WorkDone where
  record : DistrictRec
  effective : Nat
  events : List PressureEvent
  deriving DecidableEq, Repr

/-- R109 steps 1 to 7 over a record and a main pressure. -/
def DistrictRec.work (r : DistrictRec) (main : Nat) : WorkDone :=
  let r3 := r.takeSlots.learn main
  let ceiling := r3.ceiling main
  let (r5, boosterEvent) := r3.boosterStep ceiling
  let e := r5.effective ceiling
  let r6 := { r5 with short := r5.isShort ceiling, figures := some { main := main, ceiling := ceiling, effective := e } }
  let (r7, lowEvent) := r6.lowStep
  { record := r7, effective := e
    events := boosterEvent.toList ++ (shortEvent r.short r6.short).toList ++ lowEvent.toList }

/-- R117: step 8 for a district whose record the work has formed. -/
def Ctl.writeStep8 (c : Ctl) (d : DistrictId) (r : DistrictRec) (e : Nat) : Ctl :=
  match writeAction r.openingWrite e r.confirmed r.station.pendingWrite with
  | .post => (c.putDistrict d (some { r with openingWrite := false })).postWrite d e
  | .withdraw => (c.putDistrict d (some r)).withdrawWrite d
  | .leave => c.putDistrict d (some r)

/-- R109: the minute's work of a district, where its programme is RUNNING or END-HOLD. -/
def Ctl.minutesWork (c : Ctl) (d : DistrictId) : Ctl :=
  match c.districts.get d with
  | none => c
  | some r =>
    if r.prog.state.runs then
      let w := r.work c.mainPressure
      w.events.foldl (fun c ev => c.post (pressureNote d w.record ev)) (c.writeStep8 d w.record w.effective)
    else c

/-- R102, R123: one district at a minute event. -/
def Ctl.districtMinute (c : Ctl) (d : DistrictId) : Ctl := (c.programmeMinute d).minutesWork d

/-- R100, R123: the minute event at the Programme Unit, district by district. DESIGN CHOICE (log 40): in the order D1,
D2, D3. -/
def Ctl.programmesMinute (c : Ctl) : Ctl := allDistricts.foldl Ctl.districtMinute c

/-! ### District requests (R86 to R89, R121) -/

/-- R86: some other defined district has the station address. -/
def Ctl.addressTaken (c : Ctl) (d : DistrictId) (address : Nat) : Bool :=
  allDistricts.any fun i =>
    i != d && match c.districts.get i with
      | some r => r.defn.address == address
      | none => false

/-- R86: a district of the index, if defined, has its programme IDLE or PAUSED. -/
def Ctl.redefinable (c : Ctl) (d : DistrictId) : Bool :=
  match c.districts.get d with
  | none => true
  | some r => r.prog.state == .idle || r.prog.state == .paused

/-- R86, R87: DEFINE DISTRICT. -/
def Ctl.defineDistrict (c : Ctl) (tag : Byte) (body : List Byte) : Ctl :=
  match parseDefineDistrict body with
  | .error r => c.refuse 0x18#8 tag r
  | .ok (i, d) =>
    if c.addressTaken i d.address then c.refuse 0x18#8 tag .outOfRange
    else if c.storeBusy then c.refuse 0x18#8 tag .busy
    else if c.redefinable i then c.beginStore 0x18#8 tag (.defineDistrict i d)
    else c.refuse 0x18#8 tag .wrongState

/-- R89: REMOVE DISTRICT. -/
def Ctl.removeDistrict (c : Ctl) (tag : Byte) (body : List Byte) : Ctl :=
  match parseDistrict body with
  | .error r => c.refuse 0x19#8 tag r
  | .ok d =>
    match c.districts.get d with
    | none => c.refuse 0x19#8 tag .notDefined
    | some r =>
      if c.storeBusy then c.refuse 0x19#8 tag .busy
      else if r.prog.state == .idle then c.beginStore 0x19#8 tag (.removeDistrict d)
      else c.refuse 0x19#8 tag .wrongState

/-- R121: the content of DISTRICT STATUS. -/
def DistrictRec.status (r : DistrictRec) (d : DistrictId) (reserved : Bool) : DistrictStatusReply :=
  { district := d, defn := r.defn, reserved := reserved, summary := r.prog.summary, beforePause := r.prog.beforePause
    beforeStarve := r.prog.beforeStarve, starvingTrip := r.prog.starvingTrip, figures := r.figures, loss := r.loss
    lossUsed := r.lossUsed, slotsUsed := r.slotsUsed, boosterCalled := r.boosterCalled, boosterRun := r.boosterRun
    boosterReason := r.boosterReason, short := r.short, lowCount := r.lowCount, lowReported := r.lowReported
    confirmed := r.confirmed, openingWrite := r.openingWrite, pendingWrite := r.station.pendingWrite
    station := r.station.state }

/-- R121: DISTRICT STATUS. -/
def Ctl.districtStatus (c : Ctl) (tag : Byte) (body : List Byte) : Ctl :=
  match parseDistrict body with
  | .error r => c.refuse 0x1A#8 tag r
  | .ok d =>
    match c.districts.get d with
    | none => c.refuse 0x1A#8 tag .notDefined
    | some r => c.reply 0x1A#8 tag .done (.districtStatus (r.status d (c.districtReserved d)))

/-! ### Definitions applied and restarts (R88, R107, R115, R122) -/

/-- R88 step 3, R115, R122: a definition applied to a defined district; its station record is the poller's. -/
def DistrictRec.redefine (r : DistrictRec) (d : DistrictDef) : DistrictRec :=
  let r' := { r with defn := d, loss := d.lossAllowance, lowCount := 0, lowReported := false }
  if d.booster then r' else r'.releaseBooster

/-- R115: the PRESSURE notice REDEFINED where a definition with no booster releases a called one. -/
def Ctl.redefineNotice (c : Ctl) (d : DistrictId) (before after : DistrictRec) : Ctl :=
  if after.boosterCalled then c else c.releaseNotice d before after .redefined

/-- R107: a RUNNING, END-HOLD or STARVED programme becomes PAUSED at a warm restart. -/
def Programme.restart (p : Programme) : Programme := if p.state.pausable then p.pause else p

/-- R107, R122: a warm restart pauses the programmes and keeps the rest of the records. -/
def Ctl.pauseProgrammes (c : Ctl) : Ctl :=
  let pause (r : DistrictRec) : DistrictRec := { r with prog := r.prog.restart }
  { c with districts := ⟨c.districts.d1.map pause, c.districts.d2.map pause, c.districts.d3.map pause⟩ }

end Sys2Proof.Machine
end

