-- ==== Sys2Proof/Machine/Manifold.lean ====
section
/-! DEFINITION. The Manifold Controller's own events (chapter 3): limit events, the travel timeout, drift, trips, make
relief, make flowing, and the seconds that its timers count. -/

namespace Sys2Proof.Machine

/-! ### Limit readings (R44, R48) -/

/-- R44: the readings after one limit switch is made or lost. -/
def limitsAfter (l : ValveLimits) (sw : Switch) (made : Bool) : ValveLimits :=
  match sw with
  | .openLimit => { l with openMade := made }
  | .closedLimit => { l with closedMade := made }

/-- The readings of a channel after one limit switch of a side is made or lost. -/
def channelAfter (l : HolderLimits) (side : Side) (sw : Switch) (made : Bool) : HolderLimits :=
  match side with
  | .inlet => { l with inlet := limitsAfter l.inlet sw made }
  | .outlet => { l with outlet := limitsAfter l.outlet sw made }

/-- Both limits made. -/
def bothMade (l : ValveLimits) : Bool := l.openMade && l.closedMade

/-- R48, R49: the limit of a position is made and the other is not. -/
def limitsShow (l : ValveLimits) (p : Position) : Bool :=
  match p with
  | .opened => l.openMade && !l.closedMade
  | .closed => l.closedMade && !l.openMade

/-- The state of a valve at rest in a position. -/
def Position.atRest : Position → ValveState
  | .opened => .opened
  | .closed => .closed

/-- R50: a valve at rest drifts by losing the limit of its position or making the other. -/
def drifts (p : Position) (sw : Switch) (made : Bool) : Bool :=
  match p, sw with
  | .opened, .openLimit => !made
  | .opened, .closedLimit => made
  | .closed, .closedLimit => !made
  | .closed, .openLimit => made

/-- R48 to R50: what a limit event makes of a valve: the new state and the event, or none where only the readings
change. -/
def limitOutcome (v : ValveRec) (l : ValveLimits) (sw : Switch) (made : Bool) : Option (ValveState × ValveEvent) :=
  match v.state with
  | .opening =>
    if bothMade l then some (.disagree, .disagree) else if limitsShow l .opened then some (.opened, .arrived) else none
  | .closing =>
    if bothMade l then some (.disagree, .disagree) else if limitsShow l .closed then some (.closed, .arrived) else none
  | .stuck =>
    if bothMade l then some (.disagree, .disagree)
    else
      match v.commanded with
      | some p => if limitsShow l p then some (p.atRest, .arrivedLate) else none
      | none => none
  | .opened => if drifts .opened sw made then some (.disagree, .disagree) else none
  | .closed => if drifts .closed sw made then some (.disagree, .disagree) else none
  | .disagree => none
  | .unknown => none

/-! ### Consequences of a change of state (R51, R57) -/

/-- R57: an inlet that reaches OPEN releases an asserted make relief. -/
def Ctl.releaseRelief (c : Ctl) (side : Side) (st : ValveState) : Ctl :=
  if side == .inlet && st == .opened then { c with relief := false } else c

/-- R51, R105: the Programme Unit is told of an outlet that reaches OPEN. -/
def Ctl.reportOutlet (c : Ctl) (h : HolderId) (side : Side) (st : ValveState) : Ctl :=
  if side == .outlet && st == .opened then c.outletRestored h else c

/-- R51: the Order Sequencer is told of a change of state made by a limit event or a timeout. -/
def Ctl.reportState (c : Ctl) (h : HolderId) (side : Side) (st : ValveState) : Ctl :=
  match st with
  | .opened => c.reportArrival h side st
  | .closed => c.reportArrival h side st
  | .stuck => c.reportFailure h side st
  | .disagree => c.reportFailure h side st
  | .opening => c
  | .closing => c
  | .unknown => c

/-- R48, R50: the fault of a change of state: VALVE DISAGREE with the readings, VALVE STUCK with the timeout. -/
def Ctl.stateFault (c : Ctl) (h : HolderId) (side : Side) (v : ValveRec) : Ctl :=
  match v.state with
  | .disagree => c.raise (disagreeFault h side v.limits)
  | .stuck => c.raise (stuckFault h side v)
  | .opened => c
  | .closed => c
  | .opening => c
  | .closing => c
  | .unknown => c

/-- R48 to R51, R57, R59: a valve comes to rest in a state. The fault is raised, relief is released, the Programme Unit
and the Order Sequencer are told (logs 11 and 24), and the VALVE notice of the change is posted. -/
def Ctl.valveRests (c : Ctl) (h : HolderId) (side : Side) (r : HolderRec) (st : ValveState) (event : ValveEvent) : Ctl :=
  let v := { r.valve side with state := st, timeout := none }
  let r' := r.putValve side v
  let c1 := ((c.putHolder h (some r')).stateFault h side v).releaseRelief side st
  let note := valveContent h side event r' c1.relief (c.relief != c1.relief)
  ((c1.reportOutlet h side st).reportState h side st).post note

/-! ### Limit events and the travel timeout (R48 to R50) -/

/-- R48: the limit switch input of a channel, which is wired whether or not the holder is defined. -/
def Ctl.setPin (c : Ctl) (h : HolderId) (side : Side) (sw : Switch) (made : Bool) : Ctl :=
  { c with pins := c.pins.put h (channelAfter (c.pins.get h) side sw made) }

/-- R48 to R50: a limit event of a valve of a defined holder; an undefined holder's is not taken (R60). DESIGN CHOICE
(log 39): an event that repeats the reading in force is judged like any other. -/
def Ctl.judgeLimit (c : Ctl) (h : HolderId) (side : Side) (sw : Switch) (made : Bool) : Ctl :=
  match c.holders.get h with
  | none => c
  | some r =>
    let l := limitsAfter (r.valve side).limits sw made
    let r' := r.putValve side { r.valve side with limits := l }
    match limitOutcome (r.valve side) l sw made with
    | none => c.putHolder h (some r')
    | some (st, event) => c.valveRests h side r' st event

/-- R48: a limit switch is made or lost. -/
def Ctl.limitEvent (c : Ctl) (h : HolderId) (side : Side) (sw : Switch) (made : Bool) : Ctl :=
  if c.powered then (c.setPin h side sw made).judgeLimit h side sw made else c.setPin h side sw made

/-- R47, R49: the travel timeout makes its event where the valve travels and the count has come to zero. -/
def ValveRec.timedOut (v : ValveRec) : Bool := v.travelling && v.timeout == some 0

/-- R47, R49: the travel timeout of a travelling valve runs out and the valve goes STUCK. A timeout that was cancelled, or
that a reversal or a new start has set to its full length again, is not run out, and nothing happens (log 2). -/
def Ctl.travelTimeout (c : Ctl) (h : HolderId) (side : Side) : Ctl :=
  match c.holders.get h with
  | none => c
  | some r => if (r.valve side).timedOut then c.valveRests h side r .stuck .stuck else c

/-! ### Trips (R55 to R57) -/

/-- R27: the valve a trip closes. -/
def TripKind.side : TripKind → Side
  | .landing => .outlet
  | .top => .inlet

/-- R44: the source a trip's command carries. -/
def TripKind.source : TripKind → Source
  | .landing => .landingTrip
  | .top => .topTrip

/-- R55, R56 step 3: starvation where the last outlet is lost, make relief where the last inlet is shut with make
flowing. -/
def Ctl.tripConsequence (c : Ctl) (h : HolderId) (kind : TripKind) : Ctl :=
  match kind with
  | .landing => if c.anyCommandedOpen .outlet then c else c.starve h
  | .top => if !c.anyCommandedOpen .inlet && c.makeFlowing then { c with relief := true } else c

/-- R55, R56: a trip is carried out without the checks of R53, in the order of its steps. -/
def Ctl.trip (c : Ctl) (h : HolderId) (kind : TripKind) : Ctl :=
  match c.holders.get h with
  | none => c
  | some r =>
    let (r', event) := r.take kind.side .closed kind.source
    let c3 := (c.putHolder h (some r')).tripConsequence h kind
    let note := valveContent h kind.side (event.getD .tripHeld) r' c3.relief (c.relief != c3.relief)
    (c3.orderTrip h kind).post note

/-! ### Make flowing and the seconds (R47, R52) -/

/-- R52: a make pulse at the Manifold Controller. -/
def Ctl.makeFlows (c : Ctl) : Ctl := { c with makeFlowing := true, makeTimer := some Config.makeTimerSeconds }

/-- R52: the make-flowing timer has run out, its count at zero, and make flowing becomes false. Where a pulse was taken
first the timer runs anew, and the expiry does not occur; nor does it where no timer runs (logs 7 and 2). -/
def Ctl.makeExpires (c : Ctl) : Ctl :=
  if c.makeTimer = some 0 then { c with makeFlowing := false, makeTimer := none } else c

/-- R47: a running travel timeout counts down one second. -/
def ValveRec.second (v : ValveRec) : ValveRec := { v with timeout := v.timeout.map fun t => t - 1 }

/-- R47: the travel timeouts of a holder count down one second. -/
def HolderRec.second (r : HolderRec) : HolderRec := { r with inlet := r.inlet.second, outlet := r.outlet.second }

/-- R47, R52, R143: one second passes: the second within the minute advances up to 59 (log 5), the running timeouts and
the make-flowing timer count down, and the time base moves to the next whole second (log 6). -/
def Ctl.second (c : Ctl) : Ctl :=
  { c with
    clock := { c.clock with second := min 59 (c.clock.second + 1) }
    now := (c.now / 1000 + 1) * 1000
    makeTimer := c.makeTimer.map fun t => t - 1
    holders := ⟨c.holders.h1.map HolderRec.second, c.holders.h2.map HolderRec.second,
                c.holders.h3.map HolderRec.second, c.holders.h4.map HolderRec.second⟩ }

end Sys2Proof.Machine
end

