-- ==== Sys2Proof/Machine/Stock.lean ====
section
/-! DEFINITION. The Stock Unit (chapters 1 and 2): holder records, the gauge sample with its stages in order, the
barometer sample, and the holder requests. -/

namespace Sys2Proof.Machine

/-! ### Holder records (R6, R22, R45) -/

/-- R6 step 2: an input without a value. -/
def Input.none {α : Type} : Input α := { value := Option.none, lost := false, held := false }

/-- R6 step 2, R22: a holder record in its initial condition over two valve records; the connection state that follows
from them is reported (R32, R51). -/
def initialHolder (d : HolderDef) (inlet outlet : ValveRec) : HolderRec :=
  let r : HolderRec :=
    { defn := d, vsmax := d.vsmax, crown := Input.none, pressure := Input.none, temperature := Input.none, discards := []
      figures := Option.none, reasons := Reasons.empty, flags := Flags.clear, disagreeCount := 0, agreeCount := 0
      disturbed := false, conn := .isolated, lastSample := Option.none, inlet := inlet, outlet := outlet }
  r.report

/-- R6, R22, R45: the record of a holder of an undefined index, its valves created from the limits read. -/
def createdHolder (d : HolderDef) (l : HolderLimits) : HolderRec :=
  initialHolder d (createdValve l.inlet d.inletTime) (createdValve l.outlet d.outletTime)

/-- R6, R60: the record rebuilt for a defined holder, its valves kept with the new travel times. -/
def HolderRec.rebuilt (r : HolderRec) (d : HolderDef) : HolderRec :=
  initialHolder d { r.inlet with travelTime := d.inletTime } { r.outlet with travelTime := d.outletTime }

/-! ### Stages 0 and 0a (R9 to R14) -/

/-- The three converter codes of a holder channel. -/
structure Codes where
  crown : Code
  pressure : Code
  temperature : Code
  deriving DecidableEq, Repr

/-- R10: the three readings; none for a LOST code. -/
structure Readings where
  crown : Option Nat
  pressure : Option Nat
  temperature : Option Int
  deriving DecidableEq, Repr

/-- R10: the codes of a channel converted. -/
def HolderDef.readings (d : HolderDef) (k : Codes) : Readings :=
  { crown := convert 0 d.span k.crown, pressure := convertPressure k.pressure
    temperature := convertTemperature k.temperature }

/-- R11: the fault GAUGE LOST at the first sample of a spell. -/
def lostFault {α : Type} (h : HolderId) (input : GaugeInput) (code : Code) (i : Input α) (reading : Option α)
    (detail : α → Int) : Option FaultReport :=
  if reading.isNone && !i.lost then
    some { cause := .gaugeLost, object := .gauge h input, detail1 := some code.toNat, detail2 := i.value.map detail }
  else Option.none

/-- R13: the fault GAUGE JUMP at the first discard of a run. -/
def jumpFault (h : HolderId) (t : CrownTaken) : Option FaultReport :=
  t.jump.map fun (discarded, held) =>
    { cause := .gaugeJump, object := .holder h, detail1 := some discarded, detail2 := some held }

/-- R11, R13: the faults of stages 0 and 0a, in the order of the inputs. -/
def HolderRec.gaugeFaults (r : HolderRec) (h : HolderId) (k : Codes) (v : Readings) (t : CrownTaken) :
    List FaultReport :=
  (lostFault h .crown k.crown r.crown v.crown fun n => (n : Int)).toList ++
  (lostFault h .pressure k.pressure r.pressure v.pressure fun n => (n : Int)).toList ++
  (lostFault h .temperature k.temperature r.temperature v.temperature fun n => n).toList ++
  (jumpFault h t).toList

/-- R9 stages 0 and 0a: the inputs and the discard run after the readings, with the yard minute of the sample. -/
def HolderRec.takeReadings (r : HolderRec) (v : Readings) (t : CrownTaken) (minute : Nat) : HolderRec :=
  { r with
    crown := t.input, discards := t.discards, pressure := r.pressure.take v.pressure
    temperature := r.temperature.take v.temperature, lastSample := some minute }

/-- R40: some input kept a held value. -/
def HolderRec.gaugeHeld (r : HolderRec) : Bool := r.crown.held || r.pressure.held || r.temperature.held

/-- R40, R41: step 4: the suspect reasons of the sample, and the disturbed mark. -/
def HolderRec.suspect (r : HolderRec) (baroHeld disagree : Bool) : HolderRec :=
  let reasons : Reasons := { gaugeHeld := r.gaugeHeld, barometerHeld := baroHeld, pressureDisagree := disagree }
  { r with reasons := reasons, disturbed := r.disturbed || reasons.any }

/-! ### Stages 1 to 5 (R9, R24) -/

/-- R9: the figures of a sample, where the three inputs and the barometer have values. -/
def HolderRec.sampleFigures (r : HolderRec) (baro : Option Nat) : Option Figures :=
  match r.crown.value, r.pressure.value, r.temperature.value, baro with
  | some h, some pg, some t, some b => some (figuresOf r.defn r.vsmax h pg t b)
  | _, _, _, _ => Option.none

/-- R24 steps 1 to 4: the record of a complete sample, and whether it gained PRESSURE DISAGREE. -/
def HolderRec.stage5 (r : HolderRec) (f : Figures) (baroHeld : Bool) : HolderRec × Bool :=
  let k := pressureCheck (checkedSample r.defn f (!r.crown.held) (!r.pressure.held)) (disagrees r.defn f)
    r.disagreeCount r.agreeCount r.reasons.pressureDisagree
  ({ r with
      figures := some f, flags := flagsAfter r.defn r.conn f r.flags
      disagreeCount := k.disagreeCount, agreeCount := k.agreeCount }.suspect baroHeld k.reason, k.gained)

/-- R27: the trips a sample makes: a newly set Landed or Top flag. R3 keeps the two apart. -/
def tripsOf (before after : Flags) : List TripKind :=
  (if after.landed && !before.landed then [.landing] else []) ++ (if after.top && !before.top then [.top] else [])

/-- R35: step 5: a BAND notice where any of the four flags changed. -/
def Ctl.bandNotice (c : Ctl) (h : HolderId) (before : Flags) (r : HolderRec) (f : Figures) : Ctl :=
  let changed := flagsChanged before r.flags
  if changed.any then c.post (.band h r.flags changed f.stock f.freeRoom r.defn.mode c.clock.minute) else c

/-- Section 11.1: LANDING TRIP or TOP TRIP, with h and S as details. -/
def tripFault (h : HolderId) (kind : TripKind) (f : Figures) : FaultReport :=
  { cause := match kind with
      | .landing => .landingTrip
      | .top => .topTrip
    object := .holder h, detail1 := some f.h, detail2 := some f.stock }

/-- R27: step 6: the TRIP notice and the trip fault. -/
def Ctl.tripNotice (h : HolderId) (f : Figures) (c : Ctl) (kind : TripKind) : Ctl :=
  (c.post (.trip h kind f.h f.stock c.clock.minute)).raise (tripFault h kind f)

/-- R38: step 7: GAUGE DISAGREE, with p_g and P_exp[n] as details. -/
def Ctl.disagreeNotice (c : Ctl) (h : HolderId) (gained : Bool) (d : HolderDef) (f : Figures) : Ctl :=
  if gained then
    c.raise { cause := .gaugeDisagree, object := .holder h, detail1 := some f.pg
              detail2 := some (d.expectedAt f.lifts) }
  else c

/-- R20, R24, R27: the sample of a holder that reaches stage 4: the whole record is written, steps 5 to 8 follow (step 8
hands each trip to the Manifold Controller), and the Order Sequencer is given the stock and flags. -/
def Ctl.completeSample (c : Ctl) (h : HolderId) (r : HolderRec) (f : Figures) : Ctl :=
  let (r', gained) := r.stage5 f c.baro.lost
  let trips := tripsOf r.flags r'.flags
  let c1 := trips.foldl (Ctl.tripNotice h f) ((c.putHolder h (some r')).bandNotice h r.flags r' f)
  let c2 := trips.foldl (fun c kind => c.trip h kind) (c1.disagreeNotice h gained r'.defn f)
  c2.giveSample h { stock := f.stock, flags := r'.flags }

/-- R9, R20: a sample after stages 0 and 0a. Without its figures it ends there, with the reasons of those stages. -/
def Ctl.finishSample (c : Ctl) (h : HolderId) (r : HolderRec) : Ctl :=
  match r.sampleFigures c.baro.value with
  | some f => c.completeSample h r f
  | Option.none => c.putHolder h (some (r.suspect c.baro.lost r.reasons.pressureDisagree))

/-- R9: the gauge sample event of a holder; an undefined holder is not sampled. -/
def Ctl.holderSample (c : Ctl) (h : HolderId) (k : Codes) : Ctl :=
  match c.holders.get h with
  | Option.none => c
  | some r =>
    let v := r.defn.readings k
    let t := crownTake r.crown r.discards v.crown
    ((r.gaugeFaults h k v t).foldl Ctl.raise c).finishSample h (r.takeReadings v t c.clock.minute)

/-! ### The barometer (R12) -/

/-- R12: the barometer sample event. -/
def Ctl.barometerSample (c : Ctl) (code : Code) : Ctl :=
  match convertBarometer code with
  | some b => { c with baro := { value := some b, lost := false } }
  | Option.none =>
    let c' := { c with baro := { c.baro with lost := true } }
    if c.baro.lost then c'
    else
      c'.raise { cause := .gaugeLost, object := .barometer, detail1 := some code.toNat
                 detail2 := c.baro.value.map fun b => (b : Int) }

/-! ### Requests (R4, R7, R21, R33) -/

/-- R4, R7: the holder is ISOLATED with both valves in state CLOSED. -/
def HolderRec.atRest (r : HolderRec) : Bool :=
  r.connection == .isolated && r.inlet.state == .closed && r.outlet.state == .closed

/-- R4, R7: a defined holder admits its redefinition or removal. -/
def Ctl.holderFree (c : Ctl) (h : HolderId) (r : HolderRec) : Bool := r.atRest && !c.orderNames h

/-- R4: the state a DEFINE HOLDER needs; an undefined index needs none. -/
def Ctl.holderDefinable (c : Ctl) (h : HolderId) : Bool :=
  match c.holders.get h with
  | Option.none => true
  | some r => c.holderFree h r

/-- R4: DEFINE HOLDER. -/
def Ctl.defineHolder (c : Ctl) (tag : Byte) (body : List Byte) : Ctl :=
  match parseDefineHolder body with
  | .error r => c.refuse 0x08#8 tag r
  | .ok (h, d) =>
    if c.storeBusy then c.refuse 0x08#8 tag .busy
    else if c.holderDefinable h then c.beginStore 0x08#8 tag (.defineHolder h d)
    else c.refuse 0x08#8 tag .wrongState

/-- R7: REMOVE HOLDER. -/
def Ctl.removeHolder (c : Ctl) (tag : Byte) (body : List Byte) : Ctl :=
  match parseHolder body with
  | .error r => c.refuse 0x09#8 tag r
  | .ok h =>
    match c.holders.get h with
    | Option.none => c.refuse 0x09#8 tag .notDefined
    | some r =>
      if c.storeBusy then c.refuse 0x09#8 tag .busy
      else if c.holderFree h r then c.beginStore 0x09#8 tag (.removeHolder h)
      else c.refuse 0x09#8 tag .wrongState

/-- R33: the definition of SET BANDS: the one in force with the new band settings; an offset left out is R3's. -/
def HolderDef.withBands (d : HolderDef) (b : BandsOperands) : HolderDef :=
  { d with
    lowOffset := b.low.getD (defaultOffset d.vsmax), highOffset := b.high.getD (defaultOffset d.vsmax), mode := b.mode }

/-- R33: SET BANDS. -/
def Ctl.setBands (c : Ctl) (tag : Byte) (body : List Byte) : Ctl :=
  match parseSetBands body with
  | .error r => c.refuse 0x0A#8 tag r
  | .ok b =>
    match c.holders.get b.holder with
    | Option.none => c.refuse 0x0A#8 tag .notDefined
    | some r =>
      if c.storeBusy then c.refuse 0x0A#8 tag .busy
      else c.beginStore 0x0A#8 tag (.setBands b.holder (r.defn.withBands b))

/-- R21: the content of HOLDER STATUS. The barometer counts as held where it is in a LOST spell as the last sample saw
it (log 35). -/
def HolderRec.status (r : HolderRec) (baro : Barometer) : HolderStatusReply :=
  { lifts := r.defn.lifts.length, hmax := r.defn.hmax, vsmax := r.vsmax, span := r.defn.span, figures := r.figures
    crownHeld := r.crown.held, crownLost := r.crown.lost, pressureHeld := r.pressure.held
    pressureLost := r.pressure.lost, temperatureHeld := r.temperature.held, temperatureLost := r.temperature.lost
    barometerHeld := r.reasons.barometerHeld, barometerLost := baro.lost, discards := r.discards.length
    reasons := r.reasons, flags := r.flags, mode := r.defn.mode, lowOffset := r.defn.lowOffset
    highOffset := r.defn.highOffset, disagreeCount := r.disagreeCount, agreeCount := r.agreeCount
    conn := r.connection, inlet := r.inlet, outlet := r.outlet, lastSample := r.lastSample }

/-- R21: HOLDER STATUS. -/
def Ctl.holderStatus (c : Ctl) (tag : Byte) (body : List Byte) : Ctl :=
  match parseHolder body with
  | .error r => c.refuse 0x0B#8 tag r
  | .ok h =>
    match c.holders.get h with
    | Option.none => c.refuse 0x0B#8 tag .notDefined
    | some r => c.reply 0x0B#8 tag .done (.holderStatus (r.status c.baro))

end Sys2Proof.Machine
end

