-- ==== Sys2Proof/Machine/Store.lean ====
section
/-! DEFINITION. The Definition Store (chapter 10): its requests, the ends of its operations with the applying of what
they wrote, STORE CLEAR, and the restoring of the records at power-up. -/

namespace Sys2Proof.Machine

/-! ### Records (R183) -/

/-- The nine records in the order of R190. -/
def allRecords : List RecordId :=
  [.identity, .yard, .holder .h1, .holder .h2, .holder .h3, .holder .h4, .district .d1, .district .d2, .district .d3]

/-- R183: the record a store operation works on; none for STORE CLEAR, which works on all nine. -/
def StoreWork.record : StoreWork → Option RecordId
  | .defineHolder h _ => some (.holder h)
  | .removeHolder h => some (.holder h)
  | .setBands h _ => some (.holder h)
  | .defineDistrict i _ => some (.district i)
  | .removeDistrict i => some (.district i)
  | .defineYard _ => some .yard
  | .setIdentity _ => some .identity
  | .clear => none

/-- R184, R188: the work touches the record. -/
def StoreWork.touches (w : StoreWork) (r : RecordId) : Bool :=
  match w.record with
  | some q => q == r
  | none => true

/-- R183: a record becomes erased. -/
def Store.erase (s : Store) (r : RecordId) : Store :=
  match r with
  | .identity => { s with identity := .erased }
  | .yard => { s with yard := .erased }
  | .holder h => { s with holders := s.holders.put h .erased }
  | .district d => { s with districts := s.districts.put d .erased }

/-- R183: a record becomes bad. -/
def Store.spoil (s : Store) (r : RecordId) (stored computed : Check) : Store :=
  match r with
  | .identity => { s with identity := .bad stored computed }
  | .yard => { s with yard := .bad stored computed }
  | .holder h => { s with holders := s.holders.put h (.bad stored computed) }
  | .district d => { s with districts := s.districts.put d (.bad stored computed) }

/-- R183: the checks of a record where it is bad. -/
def Stored.badChecks {α : Type} : Stored α → Option (Check × Check)
  | .bad stored computed => some (stored, computed)
  | .erased => none
  | .written _ => none

/-- R183: the checks of a record of the store where it is bad. -/
def Store.badChecks (s : Store) : RecordId → Option (Check × Check)
  | .identity => s.identity.badChecks
  | .yard => s.yard.badChecks
  | .holder h => (s.holders.get h).badChecks
  | .district d => (s.districts.get d).badChecks

/-- R183: the lost list gains or loses a record. -/
def Store.markLost (s : Store) (r : RecordId) (isLost : Bool) : Store := { s with lost := s.lost.put r isLost }

/-- R183, R184: the records as a verified operation leaves them. -/
def Store.afterWork (s : Store) (w : StoreWork) : Store :=
  match w with
  | .defineHolder h d => { s with holders := s.holders.put h (.written d) }
  | .removeHolder h => s.erase (.holder h)
  | .setBands h d => { s with holders := s.holders.put h (.written d) }
  | .defineDistrict i d => { s with districts := s.districts.put i (.written d) }
  | .removeDistrict i => s.erase (.district i)
  | .defineYard y => { s with yard := .written y }
  | .setIdentity chars => { s with identity := .written chars }
  | .clear => allRecords.foldl Store.erase s

/-- R183: a verified write or erasure of a record takes it off the lost list. -/
def Store.unlose (s : Store) (w : StoreWork) : Store :=
  match w.record with
  | some r => s.markLost r false
  | none => { s with lost := noRecords }

/-- R183, R184: a verified operation has ended. -/
def Store.verified (s : Store) (w : StoreWork) : Store := { (s.afterWork w).unlose w with op := none }

/-- R183, R184: a failed operation whose rewrite failed too leaves its record bad and on the lost list. -/
def Store.leftBad (s : Store) (r : RecordId) (stored computed : Check) : Store :=
  (s.spoil r stored computed).markLost r true

/-! ### Holder definitions applied (R6, R7, R34, R45, R60, R84, R168) -/

/-- R45: a valve created with both limits made raises VALVE DISAGREE. -/
def Ctl.createdFault (c : Ctl) (h : HolderId) (side : Side) (v : ValveRec) : Ctl :=
  if v.state == .disagree then c.raise (disagreeFault h side v.limits) else c

/-- R45, R59: the INITIAL notices of the valves of a created holder, and the fault of a valve with both limits made.
DESIGN CHOICE (log 38): the inlet comes before the outlet. -/
def Ctl.valvesCreated (c : Ctl) (h : HolderId) (r : HolderRec) : Ctl :=
  ((((c.post (valveContent h .inlet .initial r c.relief false)).createdFault h .inlet r.inlet).post
    (valveContent h .outlet .initial r c.relief false)).createdFault h .outlet r.outlet)

/-- R168: both periods close early, for a cause, with the holders listed. -/
def Ctl.closeBoth (c : Ctl) (cause : CloseCause) (listed : List HolderId) : Ctl :=
  c.closeEarly cause listed c.openingNow true

/-- R6, R168: a definition applied to a defined holder: the periods close on its last figures, then its record is
rebuilt. -/
def Ctl.redefineHolder (c : Ctl) (h : HolderId) (d : HolderDef) : Ctl :=
  (c.closeBoth .holder c.definedHolders).modHolder h fun r => r.rebuilt d

/-- R6, R45, R168: a definition applied to an undefined index: the record and its valves are created, and the periods
close without listing it (log 34). -/
def Ctl.createHolder (c : Ctl) (h : HolderId) (d : HolderDef) : Ctl :=
  let r := createdHolder d (c.pins.get h)
  (((c.putHolder h (some r)).valvesCreated h r)).closeBoth .holder c.definedHolders

/-- R6, R84: a holder definition applied, and the starting rule at the end of the reservation. -/
def Ctl.applyHolder (c : Ctl) (h : HolderId) (d : HolderDef) : Ctl :=
  (if (c.holders.get h).isSome then c.redefineHolder h d else c.createHolder h d).startingRule

/-- R7, R60, R84, R168: a holder removed: the periods close on its last figures, its record and valves are discarded, and
the orders that name it end REMOVED. -/
def Ctl.applyHolderRemoval (c : Ctl) (h : HolderId) : Ctl :=
  let c' := (c.closeBoth .holder c.definedHolders).putHolder h none
  (Ctl.removeNaming c'.seq.orders.length h c').startingRule

/-- R34: the band settings of SET BANDS applied. -/
def Ctl.applyBands (c : Ctl) (h : HolderId) (d : HolderDef) : Ctl :=
  c.modHolder h fun r => { r with defn := { r.defn with
    lowOffset := d.lowOffset, highOffset := d.highOffset, mode := d.mode } }

/-! ### District definitions applied (R88, R89, R140, R168) -/

/-- R147: the SILENT holding of a district starts clear when its record is created, and is clear once it is removed. -/
def Ctl.forgetSilent (c : Ctl) (d : DistrictId) : Ctl :=
  { c with acc := { c.acc with silent := c.acc.silent.put d false } }

/-- R88 step 2: a district record and its station record created. -/
def Ctl.createDistrict (c : Ctl) (i : DistrictId) (d : DistrictDef) : Ctl :=
  (c.putDistrict i (some (createdDistrict d c.now))).forgetSilent i

/-- R88 step 3: a defined district redefined; the poller is told last. -/
def Ctl.redefineDistrict (c : Ctl) (i : DistrictId) (r : DistrictRec) (d : DistrictDef) : Ctl :=
  let r' := r.redefine d
  ((c.putDistrict i (some r')).redefineNotice i r r').stationRedefined i d.address d.pollInterval

/-- R88: a district definition applied. -/
def Ctl.applyDistrict (c : Ctl) (i : DistrictId) (d : DistrictDef) : Ctl :=
  let c1 := (c.closeBoth .district c.definedHolders).clearBaseline i
  match c1.districts.get i with
  | some r => c1.redefineDistrict i r d
  | none => c1.createDistrict i d

/-- R89, R140, R168: a district removed. -/
def Ctl.applyDistrictRemoval (c : Ctl) (i : DistrictId) : Ctl :=
  ((((c.closeBoth .district c.definedHolders).putDistrict i none).orphanExchange i).clearBaseline i).forgetSilent i

/-! ### STORE CLEAR (R188, R189) -/

/-- R189: a verified STORE CLEAR, block by block. -/
def Ctl.applyClear (c : Ctl) : Ctl :=
  let c3 := { c with holders := ⟨none, none, none, none⟩ }.removeAllOrders
  let c5 := allDistricts.foldl Ctl.orphanExchange { c3 with districts := ⟨none, none, none⟩ }
  { c5 with acc := Accounts.cleared c5.openingNow, identity := .unset, yard := none }

/-- R188: a record whose definition is in force is rewritten from it. -/
def Ctl.rewritten (c : Ctl) (s : Store) (r : RecordId) : Option Store :=
  match r with
  | .identity =>
    match c.identity with
    | .isSet chars => some { s with identity := .written chars }
    | .unset => none
    | .unreadable => none
  | .yard => c.yard.map fun y => { s with yard := .written y }
  | .holder h => (c.holders.get h).map fun q => { s with holders := s.holders.put h (.written q.defn) }
  | .district d => (c.districts.get d).map fun q => { s with districts := s.districts.put d (.written q.defn) }

/-- R183, R188: one record after a STORE CLEAR that has not verified. -/
def Ctl.clearFailedRecord (c : Ctl) (found : PerRecord ClearReadBack) (s : Store) (r : RecordId) : Store :=
  let f := found.get r
  match c.rewritten s r with
  | some s' => if f.rewriteVerified then s'.markLost r false else s.leftBad r f.stored f.computed
  | none => if f.erased then (s.erase r).markLost r false else s.leftBad r f.stored f.computed

/-- R188: the store after a STORE CLEAR that has not verified. -/
def Ctl.clearFailed (c : Ctl) (found : PerRecord ClearReadBack) : Store :=
  { allRecords.foldl (c.clearFailedRecord found) c.store with op := none }

/-- R188: every record read back erased. -/
def allErased (found : PerRecord ClearReadBack) : Bool := allRecords.all fun r => (found.get r).erased

/-- R188: the erasures of STORE CLEAR end. -/
def Ctl.clearEnds (c : Ctl) (op : StoreOp) (found : PerRecord ClearReadBack) : Ctl :=
  if allErased found then
    { c with store := c.store.verified .clear }.applyClear.reply op.kind op.tag .done .nothing
  else ({ c with store := c.clearFailed found }.startingRule).refuse op.kind op.tag .storeFailed

/-- R188: STORE_CLEAR_ERASURES_DONE; it needs a STORE CLEAR in flight. -/
def Ctl.clearErasuresDone (c : Ctl) (found : PerRecord ClearReadBack) : Ctl :=
  match c.store.op with
  | none => c
  | some op => if op.work == .clear then c.clearEnds op found else c

/-! ### Ends of writes and erasures (R184) -/

/-- R184: the block that asked applies the change. -/
def Ctl.applyWork (c : Ctl) (w : StoreWork) : Ctl :=
  match w with
  | .defineHolder h d => c.applyHolder h d
  | .removeHolder h => c.applyHolderRemoval h
  | .setBands h d => c.applyBands h d
  | .defineDistrict i d => c.applyDistrict i d
  | .removeDistrict i => c.applyDistrictRemoval i
  | .defineYard y => { c with yard := some y }
  | .setIdentity chars => { c with identity := .isSet chars }
  | .clear => c

/-- R184: an operation verified: the record stands, the change is applied, and the reply DONE is finished. -/
def Ctl.workVerified (c : Ctl) (op : StoreOp) : Ctl :=
  ({ c with store := c.store.verified op.work }.applyWork op.work).reply op.kind op.tag .done .nothing

/-- R184: STORE_OPERATION_DONE: the read-back of a write or an erasure. -/
def Ctl.operationDone (c : Ctl) (verified : Bool) : Ctl :=
  match c.store.op with
  | none => c
  | some op =>
    if op.rollback || op.work == .clear then c
    else if verified then c.workVerified op
    else { c with store := { c.store with op := some { op with rollback := true } } }

/-- R5, R84: the work reserves a holder, so that the starting rule follows its end. -/
def StoreWork.reservesHolder : StoreWork → Bool
  | .defineHolder _ _ => true
  | .removeHolder _ => true
  | .clear => true
  | .setBands _ _ => false
  | .defineDistrict _ _ => false
  | .removeDistrict _ => false
  | .defineYard _ => false
  | .setIdentity _ => false

/-- R184: the store after the rewrite of a record as it stood. -/
def Store.rolledBack (s : Store) (w : StoreWork) (verified : Bool) (stored computed : Check) : Store :=
  match w.record with
  | some r => if verified then { s with op := none } else { s.leftBad r stored computed with op := none }
  | none => { s with op := none }

/-- R184: a failed operation is reported STORE FAILED, and its reservation ends. -/
def Ctl.workFailed (c : Ctl) (op : StoreOp) (verified : Bool) (stored computed : Check) : Ctl :=
  let c' := { c with store := c.store.rolledBack op.work verified stored computed }
  (if op.work.reservesHolder then c'.startingRule else c').refuse op.kind op.tag .storeFailed

/-- R184: STORE_ROLLBACK_DONE: the read-back of the rewrite. -/
def Ctl.rollbackDone (c : Ctl) (verified : Bool) (stored computed : Check) : Ctl :=
  match c.store.op with
  | none => c
  | some op => if op.rollback then c.workFailed op verified stored computed else c

/-! ### Requests (R185 to R188) -/

/-- R187: the operation in flight as IDENTIFY reports it. -/
def StoreWork.activity : StoreWork → StoreActivity
  | .defineHolder h _ => .write (.holder h)
  | .removeHolder h => .erasure (.holder h)
  | .setBands h _ => .write (.holder h)
  | .defineDistrict i _ => .write (.district i)
  | .removeDistrict i => .erasure (.district i)
  | .defineYard _ => .write .yard
  | .setIdentity _ => .write .identity
  | .clear => .clear

/-- R187: the content of IDENTIFY. -/
def Ctl.identifyReply (c : Ctl) : IdentifyReply :=
  { identity := c.identity, settings := c.settings, defaults := c.yard.isNone
    holders := PerHolder.of fun h => (c.holders.get h).isSome
    districts := PerDistrict.of fun d => (c.districts.get d).isSome
    activity := c.store.op.map fun op => op.work.activity
    lost := c.store.lost, speed := c.office.speed }

/-- R187: IDENTIFY. -/
def Ctl.identify (c : Ctl) (tag : Byte) (_body : List Byte) : Ctl :=
  c.reply 0x01#8 tag .done (.identify c.identifyReply)

/-- R186: SET WORKS IDENTITY. -/
def Ctl.setWorksIdentity (c : Ctl) (tag : Byte) (body : List Byte) : Ctl :=
  match parseIdentity body with
  | .error r => c.refuse 0x02#8 tag r
  | .ok chars =>
    if c.identity != .unset then c.refuse 0x02#8 tag .locked
    else if c.storeBusy then c.refuse 0x02#8 tag .busy
    else c.beginStore 0x02#8 tag (.setIdentity chars)

/-- R185: DEFINE YARD. -/
def Ctl.defineYard (c : Ctl) (tag : Byte) (body : List Byte) : Ctl :=
  match parseDefineYard body with
  | .error r => c.refuse 0x03#8 tag r
  | .ok y => if c.storeBusy then c.refuse 0x03#8 tag .busy else c.beginStore 0x03#8 tag (.defineYard y)

/-- R188: every defined holder is ISOLATED with both valves in state CLOSED. -/
def Ctl.holdersAtRest (c : Ctl) : Bool :=
  allHolders.all fun h =>
    match c.holders.get h with
    | some r => r.atRest
    | none => true

/-- R188: every defined district's programme is IDLE. -/
def Ctl.programmesIdle (c : Ctl) : Bool :=
  allDistricts.all fun d =>
    match c.districts.get d with
    | some r => r.prog.state == .idle
    | none => true

/-- R188: STORE CLEAR. -/
def Ctl.storeClear (c : Ctl) (tag : Byte) (_body : List Byte) : Ctl :=
  if c.storeBusy then c.refuse 0x04#8 tag .busy
  else if c.holdersAtRest && c.programmesIdle && c.seq.orders.isEmpty then c.beginStore 0x04#8 tag .clear
  else c.refuse 0x04#8 tag .wrongState

/-! ### Power-up (R190, R192) -/

/-- R5, R34, R87, R188: a record of an operation broken off by a power-up. -/
def Store.breakOff (w : StoreWork) (broken : PerRecord BrokenOff) (s : Store) (r : RecordId) : Store :=
  if w.touches r then
    match broken.get r with
    | .asBefore => s
    | .asAfter => match w.record with
      | some _ => s.afterWork w
      | none => s.erase r
    | .bad stored computed => s.spoil r stored computed
  else s

/-- R188, R190: the records found at a power-up. -/
def Store.found (s : Store) (broken : PerRecord BrokenOff) : Store :=
  match s.op with
  | some op => { allRecords.foldl (Store.breakOff op.work broken) s with op := none }
  | none => s

/-- R183, R190: the lost list at a power-up: the records found bad. -/
def Store.lostList (s : Store) : PerRecord Bool :=
  { identity := s.identity.badChecks.isSome, yard := s.yard.badChecks.isSome
    holders := PerHolder.of fun h => (s.holders.get h).badChecks.isSome
    districts := PerDistrict.of fun d => (s.districts.get d).badChecks.isSome }

/-- R190: the fault STORE RECORD LOST of a record found bad. -/
def Store.lostFault (s : Store) (r : RecordId) : Option FaultReport :=
  (s.badChecks r).map fun (stored, computed) =>
    { cause := .storeRecordLost, object := .record r, detail1 := some stored.toNat, detail2 := some computed.toNat }

/-- R190: the contents of a written record. -/
def Stored.restored {α : Type} : Stored α → Option α
  | .written a => some a
  | .erased => none
  | .bad _ _ => none

/-- R186, R190: the works identity restored. -/
def restoredIdentity : Stored (List Byte) → Identity
  | .written chars => .isSet chars
  | .erased => .unset
  | .bad _ _ => .unreadable

/-- R22, R45: a restored holder with its valves as the limits read. -/
def Store.restoredHolder (s : Store) (limits : PerHolder HolderLimits) (h : HolderId) : Option HolderRec :=
  (s.holders.get h).restored.map fun d => createdHolder d (limits.get h)

/-- R107, R141: a restored district. -/
def Store.restoredDistrict (s : Store) (d : DistrictId) : Option DistrictRec :=
  (s.districts.get d).restored.map fun q => createdDistrict q 0

/-- R45: the VALVE DISAGREE faults of a created holder. DESIGN CHOICE (log 38): the inlet's before the outlet's. -/
def createdFaults (h : HolderId) (r : HolderRec) : List FaultReport :=
  (if r.inlet.state == .disagree then [disagreeFault h .inlet r.inlet.limits] else []) ++
  (if r.outlet.state == .disagree then [disagreeFault h .outlet r.outlet.limits] else [])

/-- R192: the faults of the start-up in their order: the lost records, then the valves. DESIGN CHOICE (log 38): the
valves' faults in the order H1..H4. -/
def Store.startFaults (s : Store) (limits : PerHolder HolderLimits) : List FaultReport :=
  allRecords.filterMap s.lostFault ++
  (allHolders.map fun h => ((s.restoredHolder limits h).map (createdFaults h)).getD []).flatten

/-- R192: a power-up from the records of the store, the strap and the limits read. The start-up's notices meet a gate
that is off; its faults are taken in their order (log 9); the arbiter begins last. -/
def Store.startUp (s : Store) (strap : OfficeSpeed) (limits : PerHolder HolderLimits) : Ctl :=
  let c : Ctl :=
    { Ctl.blank { s with lost := s.lostList } strap limits with
      holders := PerHolder.of (s.restoredHolder limits)
      districts := PerDistrict.of s.restoredDistrict
      identity := restoredIdentity s.identity
      yard := s.yard.restored
      acc := { Accounts.reset with dayStart := (s.yard.restored.getD YardDef.default).dayStart } }
  ((s.startFaults limits).foldl Ctl.takeFault c).arbiter

end Sys2Proof.Machine
end

