-- ==== Sys2Proof/Machine/Office.lean ====
section
/-! DEFINITION. The Line Interface (chapter 9), the requests of the Fault Recorder (chapter 11), and the restarts
(R181, R191, R192). -/

namespace Sys2Proof.Machine

/-! ### Taking a request (R173, R174, R181) -/

/-- R174, R181: a good request frame is admitted. While a restart is asked for it is discarded; while 8 requests are
outstanding it is discarded with the overrun mark set; otherwise it is outstanding from here on. -/
def Ctl.admitRequest (c : Ctl) (take : Ctl → Ctl) : Ctl :=
  if !c.powered || c.office.restart.isSome then c
  else if c.office.outstanding < Config.outstandingMax then
    take { c with office := { c.office with outstanding := c.office.outstanding + 1 } }
  else { c with office := { c.office with overrun := true } }

/-- R173: an assigned request: BAD LENGTH from the Line Interface, or its owner's rule. -/
def Ctl.takeRequest (c : Ctl) (kind tag : Byte) (body : List Byte) (owner : Ctl → Byte → List Byte → Ctl) : Ctl :=
  c.admitRequest fun c' =>
    if lengthAdmitted kind.toNat body then owner c' tag body else c'.refuse kind tag .badLength

/-! ### Requests of the Line Interface (R179, R181) -/

/-- R179: the gate after a request, with the number of notices queued. -/
def Ctl.replyGate (c : Ctl) (kind tag : Byte) : Ctl :=
  c.reply kind tag .done (.gate c.office.gate c.office.queue.length)

/-- R179: the notice gate turned on or off. -/
def Ctl.setGate (c : Ctl) (on : Bool) : Ctl := { c with office := { c.office with gate := on } }

/-- R179: NOTICES ON. -/
def Ctl.noticesOn (c : Ctl) (tag : Byte) (_body : List Byte) : Ctl := (c.setGate true).replyGate 0x33#8 tag

/-- R179: NOTICES OFF. -/
def Ctl.noticesOff (c : Ctl) (tag : Byte) (_body : List Byte) : Ctl := (c.setGate false).replyGate 0x34#8 tag

/-- R142, R181: a warm restart is asked for, and the poller drops its work (log 14). -/
def Ctl.askRestart (c : Ctl) (r : Restart) : Ctl :=
  { c with office := { c.office with restart := some r } }.dropPollerWork

/-- R181: RESTART; its reply is finished when the restart is complete. -/
def Ctl.restart (c : Ctl) (tag : Byte) (_body : List Byte) : Ctl := c.askRestart { tag := some tag, pulse := false }

/-! ### The Fault Recorder (R194, R196 to R198) -/

/-- R194: the Fault Recorder takes one of the faults handed to it; a position with no fault has nothing to take. -/
def Ctl.faultTaken (c : Ctl) (position : Nat) : Ctl :=
  match c.faults.handed[position]? with
  | some f => { c with faults := { c.faults with handed := c.faults.handed.eraseIdx position } }.takeFault f
  | none => c

/-- R196: READ FAULT. -/
def Ctl.readFault (c : Ctl) (tag : Byte) (_body : List Byte) : Ctl :=
  c.reply 0x30#8 tag .done (.fault c.faults.first c.faults.further)

/-- R197: CLEAR FAULT; the reply carries the record and the mark as they stood before. -/
def Ctl.clearFault (c : Ctl) (tag : Byte) (_body : List Byte) : Ctl :=
  { c with faults := { c.faults with first := none, further := false } }.reply 0x31#8 tag .done
    (.fault c.faults.first c.faults.further)

/-- R198: the holder and manifold parts of a defined holder. -/
def HolderRec.yardPart (r : HolderRec) : YardHolder :=
  { figures := r.figures, flags := r.flags, mode := r.defn.mode, reasons := r.reasons, conn := r.connection
    inlet := r.inlet.state, outlet := r.outlet.state }

/-- R198: the district and station parts of a defined district. -/
def DistrictRec.yardPart (r : DistrictRec) : YardDistrict :=
  { state := r.prog.state, boosterCalled := r.boosterCalled, short := r.short, lowReported := r.lowReported
    station := r.station.state }

/-- R198: the content of YARD STATUS, gathered from the blocks. -/
def Ctl.yardReply (c : Ctl) : YardStatusReply :=
  let run := c.runningHour
  { clock := c.clock
    holders := PerHolder.of fun h => (c.holders.get h).map HolderRec.yardPart
    makeFlowing := c.makeFlowing, relief := c.relief
    queued := (c.seq.orders.filter fun o => !o.active).length
    active := (c.seq.orders.filter Order.active).length
    held := c.seq.held
    districts := PerDistrict.of fun d => (c.districts.get d).map DistrictRec.yardPart
    pass := c.passState
    hourNumber := run.number, make := run.make, sendOutSum := sendOutSum run.sendOuts
    opening := c.acc.hour.opening, stock := run.closing, marks := run.marks, dayNumber := run.day
    storeBusy := c.storeBusy, lostEmpty := c.store.lost == noRecords
    faultCause := c.faults.first.map fun f => f.fault.cause
    further := c.faults.further
    gate := c.office.gate, queueCount := c.office.queue.length, dropped := c.office.dropped
    overrun := c.office.overrun }

/-- R198: YARD STATUS; once its reply is formed the dropped mark and the overrun mark are cleared (R174, R180). -/
def Ctl.yardStatus (c : Ctl) (tag : Byte) (_body : List Byte) : Ctl :=
  { c with office := { c.office with dropped := false, overrun := false } }.reply 0x32#8 tag .done
    (.yardStatus c.yardReply)

/-! ### Receiving (R170 to R173) -/

/-- The owner's rule of an assigned kind (section 9.9, R203). -/
def ownerOf (kind : Nat) : Option (Ctl → Byte → List Byte → Ctl) :=
  match kind with
  | 0x01 => some Ctl.identify
  | 0x02 => some Ctl.setWorksIdentity
  | 0x03 => some Ctl.defineYard
  | 0x04 => some Ctl.storeClear
  | 0x05 => some Ctl.restart
  | 0x06 => some Ctl.setClock
  | 0x08 => some Ctl.defineHolder
  | 0x09 => some Ctl.removeHolder
  | 0x0A => some Ctl.setBands
  | 0x0B => some Ctl.holderStatus
  | 0x10 => some Ctl.submitOrder
  | 0x11 => some Ctl.cancelOrder
  | 0x12 => some Ctl.orderList
  | 0x13 => some Ctl.ordersHold
  | 0x14 => some Ctl.ordersResume
  | 0x18 => some Ctl.defineDistrict
  | 0x19 => some Ctl.removeDistrict
  | 0x1A => some Ctl.districtStatus
  | 0x1B => some Ctl.writeStep
  | 0x1C => some Ctl.readStep
  | 0x1D => some Ctl.setLastStep
  | 0x1E => some Ctl.programmeRun
  | 0x1F => some Ctl.programmePause
  | 0x20 => some Ctl.programmeClear
  | 0x21 => some Ctl.setRepeat
  | 0x24 => some Ctl.stationStatus
  | 0x25 => some Ctl.clearStationMarks
  | 0x26 => some Ctl.stationPass
  | 0x28 => some Ctl.readHour
  | 0x29 => some Ctl.readDay
  | 0x2A => some Ctl.rewindHours
  | 0x2B => some Ctl.rewindDays
  | 0x2C => some Ctl.runningTotals
  | 0x30 => some Ctl.readFault
  | 0x31 => some Ctl.clearFault
  | 0x32 => some Ctl.yardStatus
  | 0x33 => some Ctl.noticesOn
  | 0x34 => some Ctl.noticesOff
  | _ => none

/-- R173: the kinds 01h..3Fh are requests. -/
def requestKind (kind : Nat) : Bool := within 0x01 0x3F kind

/-- R173: a good frame classified by its kind byte. -/
def Ctl.takeFrame (c : Ctl) (kind tag : Byte) (body : List Byte) : Ctl :=
  match ownerOf kind.toNat with
  | some owner => c.takeRequest kind tag body owner
  | none => if requestKind kind.toNat then c.admitRequest fun c' => c'.refuse kind tag .unknownKind else c

/-- R172: the frame's check agrees with the length byte and the bytes of kind, tag and body. -/
def officeCheckGood (len : Nat) (kept : List Byte) : Bool :=
  checkBytes (BitVec.ofNat 8 len :: kept.take len) == kept.drop len

/-- R172, R173: a complete frame is judged by its check and taken. -/
def Ctl.frameComplete (c : Ctl) (len : Nat) (kept : List Byte) : Ctl :=
  if officeCheckGood len kept then
    match kept with
    | kind :: tag :: rest => c.takeFrame kind tag (rest.take (len - 2))
    | [_] => c
    | [] => c
  else c

/-- The framer in a state. -/
def Ctl.setFramer (c : Ctl) (f : Framer) : Ctl := { c with office := { c.office with framer := f } }

/-- R170: a byte whose stop bit was found, taken by the framer in its state. -/
def Ctl.framerTakes (c : Ctl) (b : Byte) : Ctl :=
  match c.office.framer with
  | .hunting => if b == 0xD2#8 then c.setFramer .length else c
  | .length => c.setFramer (if within 2 242 b.toNat then .collecting b.toNat [] else .hunting)
  | .collecting len kept =>
    let kept' := kept ++ [b]
    if kept'.length ≥ len + 2 then (c.setFramer .hunting).frameComplete len kept'
    else c.setFramer (.collecting len kept')

/-- R169, R170: a byte on the office line; a framing error discards it and any partial frame. -/
def Ctl.receiveByte (c : Ctl) (b : Byte) (framingError : Bool) : Ctl :=
  if framingError then c.setFramer .hunting else c.framerTakes b

/-- R171: the gap timer runs out; it runs only in LENGTH and COLLECTING. -/
def Ctl.gapExpires (c : Ctl) : Ctl := c.setFramer .hunting

/-! ### The transmitter (R174, R177, R178, R180) -/

/-- R178, R180: the notice begun carries the notice number and the dropped mark, which is then clear. -/
def Ctl.beginNotice (c : Ctl) (n : Notice) (rest : List Notice) : Ctl :=
  { c with office := { c.office with
      sending := some (.notice n c.office.noticeNumber c.office.dropped)
      queue := rest
      dropped := false
      noticeNumber := (c.office.noticeNumber + 1) % 256 } }

/-- R177: the idle transmitter takes the oldest reply, or else the oldest notice; no notice begins once a restart is
asked for (R181). -/
def Ctl.transmit (c : Ctl) : Ctl :=
  if c.office.sending.isSome then c
  else
    match c.office.replies with
    | r :: rest => { c with office := { c.office with sending := some (.reply r), replies := rest } }
    | [] =>
      match c.office.queue with
      | n :: rest => if c.office.restart.isSome then c else c.beginNotice n rest
      | [] => c

/-- R174, R177: the last byte of the frame on the line leaves; the request of a reply is no longer outstanding. -/
def Ctl.frameSent (c : Ctl) : Ctl :=
  match c.office.sending with
  | none => c
  | some (.reply _) =>
    { c with office := { c.office with sending := none, outstanding := c.office.outstanding - 1 } }
  | some (.notice _ _ _) => { c with office := { c.office with sending := none } }

/-! ### The minute event (R143) -/

/-- R143: the yard minute advances, and the minute event is taken by the Programme Unit, the Order Sequencer and the
Accounts Unit (log 13). -/
def Ctl.minute (c : Ctl) : Ctl := c.minutePasses.programmesMinute.ordersMinute.accountsMinute

/-- R52, R150: a make pulse at the Accounts Unit and at the Manifold Controller. -/
def Ctl.makePulse (c : Ctl) : Ctl := c.countMake.makeFlows

/-! ### Restarts (R85, R107, R142, R167, R181, R182, R191, R192) -/

/-- R191: a reset pulse begins; it joins a restart already asked for. DESIGN CHOICE (log 57): a RESTART and a pulse that fall
together (R181) stand in the queue with the RESTART first; one queued behind the pulse's start is discarded by step 1. -/
def Ctl.pulseStart (c : Ctl) : Ctl :=
  c.askRestart { tag := c.office.restart.bind Restart.tag, pulse := true }

/-- R191: a reset pulse ends in under 2 s; without a pulse there is none to end. -/
def Ctl.pulseEnd (c : Ctl) : Ctl :=
  { c with office := { c.office with restart := c.office.restart.map fun r => { r with pulse := false } } }

/-- R191: a pulse of 2 s: every output is released and no state but the store's is held, until a POWER_UP. -/
def Ctl.heldInReset (c : Ctl) : Ctl := { Ctl.blank c.store c.office.speed c.pins with powered := false }

/-- R181, R191: the warm restart can begin: it is asked for, its pulse has ended, no store operation is in flight, and
the transmitter has sent every reply. -/
def Ctl.restartReady (c : Ctl) : Bool :=
  match c.office.restart with
  | some r => !r.pulse && c.store.op.isNone && c.office.replies.isEmpty && c.office.sending.isNone
  | none => false

/-- R181 step 4, R182: the Line Interface at a warm restart. -/
def Office.restarted (o : Office) : Office := { o with queue := [], framer := .hunting }

/-- R85, R107, R142, R167: the blocks' own restarts, the closes after the queue has been emptied. -/
def Ctl.blocksRestart (c : Ctl) : Ctl :=
  let c1 := { c with office := c.office.restarted, seq := c.seq.restarted }
  c1.pauseProgrammes.dropPollerWork.closeBoth .restart c1.definedHolders

/-- R181 step 5: the restart is complete: requests are taken again, and a RESTART is answered DONE. -/
def Ctl.restartComplete (c : Ctl) (tag : Option Byte) : Ctl :=
  let c' := { c with office := { c.office with restart := none } }
  match tag with
  | some t => c'.reply 0x05#8 t .done .nothing
  | none => c'

/-- R142, R181: the warm restart, with the arbiter run on the reads that are due. -/
def Ctl.warmRestart (c : Ctl) : Ctl :=
  if c.restartReady then
    (c.blocksRestart.arbiter).restartComplete (c.office.restart.bind Restart.tag)
  else c

/-- R191, R192: a power-up. -/
def Ctl.powerUp (c : Ctl) (strap : OfficeSpeed) (limits : PerHolder HolderLimits) (broken : PerRecord BrokenOff) : Ctl :=
  (c.store.found broken).startUp strap limits

end Sys2Proof.Machine
end

