-- ==== Sys2Proof/Machine/Requests.lean ====
section
/-! DEFINITION. The meanings of the 38 request commands: the arrival of a good request frame of the kind, admitted by
R174 and R181, held to its lengths by R173, and taken by the rule of its owner. -/

namespace Sys2Proof.Machine

/-- What a meaning answers. -/
abbrev Answered := Host.Outcome State Fault Refusal

/-- The controller of a state replaced. -/
def State.withCtl (s : State) (c : Ctl) : State := { s with ctl := c }

/-- R173: a request command of a kind, with its owner's rule. -/
def State.request (s : State) (kind tag : Byte) (body : List Byte) (owner : Ctl → Byte → List Byte → Ctl) : Answered :=
  .next (s.withCtl (s.ctl.takeRequest kind tag body owner))

/-- R187: IDENTIFY. -/
def execIdentify (tag : Byte) (body : List Byte) (s : State) : Answered :=
  s.request 0x01#8 tag body Ctl.identify

/-- R186: SET WORKS IDENTITY. -/
def execSetWorksIdentity (tag : Byte) (body : List Byte) (s : State) : Answered :=
  s.request 0x02#8 tag body Ctl.setWorksIdentity

/-- R185: DEFINE YARD. -/
def execDefineYard (tag : Byte) (body : List Byte) (s : State) : Answered :=
  s.request 0x03#8 tag body Ctl.defineYard

/-- R188: STORE CLEAR. -/
def execStoreClear (tag : Byte) (body : List Byte) (s : State) : Answered :=
  s.request 0x04#8 tag body Ctl.storeClear

/-- R181: RESTART. -/
def execRestart (tag : Byte) (body : List Byte) (s : State) : Answered :=
  s.request 0x05#8 tag body Ctl.restart

/-- R144: SET CLOCK. -/
def execSetClock (tag : Byte) (body : List Byte) (s : State) : Answered :=
  s.request 0x06#8 tag body Ctl.setClock

/-- R4: DEFINE HOLDER. -/
def execDefineHolder (tag : Byte) (body : List Byte) (s : State) : Answered :=
  s.request 0x08#8 tag body Ctl.defineHolder

/-- R7: REMOVE HOLDER. -/
def execRemoveHolder (tag : Byte) (body : List Byte) (s : State) : Answered :=
  s.request 0x09#8 tag body Ctl.removeHolder

/-- R33: SET BANDS. -/
def execSetBands (tag : Byte) (body : List Byte) (s : State) : Answered :=
  s.request 0x0A#8 tag body Ctl.setBands

/-- R21: HOLDER STATUS. -/
def execHolderStatus (tag : Byte) (body : List Byte) (s : State) : Answered :=
  s.request 0x0B#8 tag body Ctl.holderStatus

/-- R66: SUBMIT ORDER. -/
def execSubmitOrder (tag : Byte) (body : List Byte) (s : State) : Answered :=
  s.request 0x10#8 tag body Ctl.submitOrder

/-- R79: CANCEL ORDER. -/
def execCancelOrder (tag : Byte) (body : List Byte) (s : State) : Answered :=
  s.request 0x11#8 tag body Ctl.cancelOrder

/-- R83: ORDER LIST. -/
def execOrderList (tag : Byte) (body : List Byte) (s : State) : Answered :=
  s.request 0x12#8 tag body Ctl.orderList

/-- R81: ORDERS HOLD. -/
def execOrdersHold (tag : Byte) (body : List Byte) (s : State) : Answered :=
  s.request 0x13#8 tag body Ctl.ordersHold

/-- R81: ORDERS RESUME. -/
def execOrdersResume (tag : Byte) (body : List Byte) (s : State) : Answered :=
  s.request 0x14#8 tag body Ctl.ordersResume

/-- R86: DEFINE DISTRICT. -/
def execDefineDistrict (tag : Byte) (body : List Byte) (s : State) : Answered :=
  s.request 0x18#8 tag body Ctl.defineDistrict

/-- R89: REMOVE DISTRICT. -/
def execRemoveDistrict (tag : Byte) (body : List Byte) (s : State) : Answered :=
  s.request 0x19#8 tag body Ctl.removeDistrict

/-- R121: DISTRICT STATUS. -/
def execDistrictStatus (tag : Byte) (body : List Byte) (s : State) : Answered :=
  s.request 0x1A#8 tag body Ctl.districtStatus

/-- R93: WRITE STEP. -/
def execWriteStep (tag : Byte) (body : List Byte) (s : State) : Answered :=
  s.request 0x1B#8 tag body Ctl.writeStep

/-- R94: READ STEP. -/
def execReadStep (tag : Byte) (body : List Byte) (s : State) : Answered :=
  s.request 0x1C#8 tag body Ctl.readStep

/-- R95: SET LAST STEP. -/
def execSetLastStep (tag : Byte) (body : List Byte) (s : State) : Answered :=
  s.request 0x1D#8 tag body Ctl.setLastStep

/-- R97: PROGRAMME RUN. -/
def execProgrammeRun (tag : Byte) (body : List Byte) (s : State) : Answered :=
  s.request 0x1E#8 tag body Ctl.programmeRun

/-- R98: PROGRAMME PAUSE. -/
def execProgrammePause (tag : Byte) (body : List Byte) (s : State) : Answered :=
  s.request 0x1F#8 tag body Ctl.programmePause

/-- R99: PROGRAMME CLEAR. -/
def execProgrammeClear (tag : Byte) (body : List Byte) (s : State) : Answered :=
  s.request 0x20#8 tag body Ctl.programmeClear

/-- R96: SET REPEAT. -/
def execSetRepeat (tag : Byte) (body : List Byte) (s : State) : Answered :=
  s.request 0x21#8 tag body Ctl.setRepeat

/-- R138: STATION STATUS. -/
def execStationStatus (tag : Byte) (body : List Byte) (s : State) : Answered :=
  s.request 0x24#8 tag body Ctl.stationStatus

/-- R139: CLEAR STATION MARKS. -/
def execClearStationMarks (tag : Byte) (body : List Byte) (s : State) : Answered :=
  s.request 0x25#8 tag body Ctl.clearStationMarks

/-- R136: STATION PASS. -/
def execStationPass (tag : Byte) (body : List Byte) (s : State) : Answered :=
  s.request 0x26#8 tag body Ctl.stationPass

/-- R162: READ HOUR RECORD. -/
def execReadHourRecord (tag : Byte) (body : List Byte) (s : State) : Answered :=
  s.request 0x28#8 tag body Ctl.readHour

/-- R162: READ DAY RECORD. -/
def execReadDayRecord (tag : Byte) (body : List Byte) (s : State) : Answered :=
  s.request 0x29#8 tag body Ctl.readDay

/-- R163: REWIND HOURS. -/
def execRewindHours (tag : Byte) (body : List Byte) (s : State) : Answered :=
  s.request 0x2A#8 tag body Ctl.rewindHours

/-- R163: REWIND DAYS. -/
def execRewindDays (tag : Byte) (body : List Byte) (s : State) : Answered :=
  s.request 0x2B#8 tag body Ctl.rewindDays

/-- R164: RUNNING TOTALS. -/
def execRunningTotals (tag : Byte) (body : List Byte) (s : State) : Answered :=
  s.request 0x2C#8 tag body Ctl.runningTotals

/-- R196: READ FAULT. -/
def execReadFault (tag : Byte) (body : List Byte) (s : State) : Answered :=
  s.request 0x30#8 tag body Ctl.readFault

/-- R197: CLEAR FAULT. -/
def execClearFault (tag : Byte) (body : List Byte) (s : State) : Answered :=
  s.request 0x31#8 tag body Ctl.clearFault

/-- R198: YARD STATUS. -/
def execYardStatus (tag : Byte) (body : List Byte) (s : State) : Answered :=
  s.request 0x32#8 tag body Ctl.yardStatus

/-- R179: NOTICES ON. -/
def execNoticesOn (tag : Byte) (body : List Byte) (s : State) : Answered :=
  s.request 0x33#8 tag body Ctl.noticesOn

/-- R179: NOTICES OFF. -/
def execNoticesOff (tag : Byte) (body : List Byte) (s : State) : Answered :=
  s.request 0x34#8 tag body Ctl.noticesOff

end Sys2Proof.Machine
end

