-- ==== Sys2Proof/Machine/Events.lean ====
section
/-! DEFINITION. The meanings of the 26 event commands: bytes and frames of the office line, ends of store operations,
samples, limit events, timers, minutes, telemetry, and restarts. -/

namespace Sys2Proof.Machine

/-- An event of a controller that is not held in reset (R191); held in reset it holds no state for the event to act on. -/
def State.event (s : State) (f : Ctl → Ctl) : Answered :=
  .next (s.withCtl (if s.ctl.powered then f s.ctl else s.ctl))

/-- R170: RECEIVE_BYTE. -/
def execReceiveByte (b : Byte) (framingError : Bool) (s : State) : Answered :=
  s.event fun c => c.receiveByte b framingError

/-- R171: GAP_TIMER_EXPIRY. -/
def execGapTimerExpiry (s : State) : Answered :=
  s.event Ctl.gapExpires

/-- R177: TRANSMIT_FRAME. -/
def execTransmitFrame (s : State) : Answered :=
  s.event Ctl.transmit

/-- R174: OFFICE_FRAME_SENT. -/
def execOfficeFrameSent (s : State) : Answered :=
  s.event Ctl.frameSent

/-- R184: STORE_OPERATION_DONE. -/
def execStoreOperationDone (verified : Bool) (s : State) : Answered :=
  s.event fun c => c.operationDone verified

/-- R184: STORE_ROLLBACK_DONE. -/
def execStoreRollbackDone (verified : Bool) (stored computed : Check) (s : State) : Answered :=
  s.event fun c => c.rollbackDone verified stored computed

/-- R188: STORE_CLEAR_ERASURES_DONE. -/
def execStoreClearErasuresDone (found : PerRecord ClearReadBack) (s : State) : Answered :=
  s.event fun c => c.clearErasuresDone found

/-- R9: HOLDER_SAMPLE. -/
def execHolderSample (h : HolderId) (crown pressure temperature : Code) (s : State) : Answered :=
  s.event fun c => c.holderSample h { crown := crown, pressure := pressure, temperature := temperature }

/-- R12: BAROMETER_SAMPLE. -/
def execBarometerSample (code : Code) (s : State) : Answered :=
  s.event fun c => c.barometerSample code

/-- R194: FAULT_TAKEN. -/
def execFaultTaken (position : Nat) (s : State) : Answered :=
  s.event fun c => c.faultTaken position

/-- R48: LIMIT_EVENT. -/
def execLimitEvent (h : HolderId) (side : Side) (switch : Switch) (made : Bool) (s : State) : Answered :=
  .next (s.withCtl (s.ctl.limitEvent h side switch made))

/-- R49: VALVE_TRAVEL_TIMEOUT. -/
def execValveTravelTimeout (h : HolderId) (side : Side) (s : State) : Answered :=
  s.event fun c => c.travelTimeout h side

/-- R52, R150: MAKE_PULSE. -/
def execMakePulse (s : State) : Answered :=
  s.event Ctl.makePulse

/-- R52: MAKE_FLOWING_EXPIRY. -/
def execMakeFlowingExpiry (s : State) : Answered :=
  s.event Ctl.makeExpires

/-- R143: MINUTE_EVENT. -/
def execMinuteEvent (s : State) : Answered :=
  s.event Ctl.minute

/-- R131: STATION_READ_DUE. -/
def execStationReadDue (d : DistrictId) (s : State) : Answered :=
  s.event fun c => c.readDueArrives d

/-- R125: TELEMETRY_QUIET_END. -/
def execTelemetryQuietEnd (s : State) : Answered :=
  s.event Ctl.quietEnd

/-- R125: TELEMETRY_TRANSMIT_DONE. -/
def execTelemetryTransmitDone (s : State) : Answered :=
  s.event Ctl.transmitDone

/-- R125: TELEMETRY_BYTE_RECEIVED. -/
def execTelemetryByteReceived (b : Byte) (s : State) : Answered :=
  s.event fun c => c.telemetryByte b

/-- R125: REPLY_WINDOW_EXPIRY. -/
def execReplyWindowExpiry (s : State) : Answered :=
  s.event Ctl.windowExpiry

/-- R191: RESET_PULSE_START. -/
def execResetPulseStart (s : State) : Answered :=
  s.event Ctl.pulseStart

/-- R191: RESET_PULSE_END. -/
def execResetPulseEnd (s : State) : Answered :=
  s.event Ctl.pulseEnd

/-- R191: RESET_PULSE_LONG. -/
def execResetPulseLong (s : State) : Answered :=
  s.event Ctl.heldInReset

/-- R181: WARM_RESTART_BEGIN. -/
def execWarmRestartBegin (s : State) : Answered :=
  s.event Ctl.warmRestart

/-- R192: POWER_UP. -/
def execPowerUp (strap : OfficeSpeed) (limits : PerHolder HolderLimits) (broken : PerRecord BrokenOff) (s : State) : Answered :=
  .next (s.withCtl (s.ctl.powerUp strap limits broken))

/-- R143: YARD_CLOCK_SECOND. -/
def execYardClockSecond (s : State) : Answered :=
  s.event Ctl.second

end Sys2Proof.Machine
end

