-- ==== Sys2Proof/Machine/Dispatch.lean ====
section
/-! DEFINITION. One arm per command, each one direct call of its meaning. -/

namespace Sys2Proof.Machine

def exec (i : Instr) (s : State) : Host.Outcome State Fault Refusal :=
  match i with
  | .identify tag body => Sys2Proof.Machine.execIdentify tag body s
  | .setWorksIdentity tag body => Sys2Proof.Machine.execSetWorksIdentity tag body s
  | .defineYard tag body => Sys2Proof.Machine.execDefineYard tag body s
  | .storeClear tag body => Sys2Proof.Machine.execStoreClear tag body s
  | .restart tag body => Sys2Proof.Machine.execRestart tag body s
  | .setClock tag body => Sys2Proof.Machine.execSetClock tag body s
  | .defineHolder tag body => Sys2Proof.Machine.execDefineHolder tag body s
  | .removeHolder tag body => Sys2Proof.Machine.execRemoveHolder tag body s
  | .setBands tag body => Sys2Proof.Machine.execSetBands tag body s
  | .holderStatus tag body => Sys2Proof.Machine.execHolderStatus tag body s
  | .submitOrder tag body => Sys2Proof.Machine.execSubmitOrder tag body s
  | .cancelOrder tag body => Sys2Proof.Machine.execCancelOrder tag body s
  | .orderList tag body => Sys2Proof.Machine.execOrderList tag body s
  | .ordersHold tag body => Sys2Proof.Machine.execOrdersHold tag body s
  | .ordersResume tag body => Sys2Proof.Machine.execOrdersResume tag body s
  | .defineDistrict tag body => Sys2Proof.Machine.execDefineDistrict tag body s
  | .removeDistrict tag body => Sys2Proof.Machine.execRemoveDistrict tag body s
  | .districtStatus tag body => Sys2Proof.Machine.execDistrictStatus tag body s
  | .writeStep tag body => Sys2Proof.Machine.execWriteStep tag body s
  | .readStep tag body => Sys2Proof.Machine.execReadStep tag body s
  | .setLastStep tag body => Sys2Proof.Machine.execSetLastStep tag body s
  | .programmeRun tag body => Sys2Proof.Machine.execProgrammeRun tag body s
  | .programmePause tag body => Sys2Proof.Machine.execProgrammePause tag body s
  | .programmeClear tag body => Sys2Proof.Machine.execProgrammeClear tag body s
  | .setRepeat tag body => Sys2Proof.Machine.execSetRepeat tag body s
  | .stationStatus tag body => Sys2Proof.Machine.execStationStatus tag body s
  | .clearStationMarks tag body => Sys2Proof.Machine.execClearStationMarks tag body s
  | .stationPass tag body => Sys2Proof.Machine.execStationPass tag body s
  | .readHourRecord tag body => Sys2Proof.Machine.execReadHourRecord tag body s
  | .readDayRecord tag body => Sys2Proof.Machine.execReadDayRecord tag body s
  | .rewindHours tag body => Sys2Proof.Machine.execRewindHours tag body s
  | .rewindDays tag body => Sys2Proof.Machine.execRewindDays tag body s
  | .runningTotals tag body => Sys2Proof.Machine.execRunningTotals tag body s
  | .readFault tag body => Sys2Proof.Machine.execReadFault tag body s
  | .clearFault tag body => Sys2Proof.Machine.execClearFault tag body s
  | .yardStatus tag body => Sys2Proof.Machine.execYardStatus tag body s
  | .noticesOn tag body => Sys2Proof.Machine.execNoticesOn tag body s
  | .noticesOff tag body => Sys2Proof.Machine.execNoticesOff tag body s
  | .receiveByte b framingError => Sys2Proof.Machine.execReceiveByte b framingError s
  | .gapTimerExpiry => Sys2Proof.Machine.execGapTimerExpiry s
  | .transmitFrame => Sys2Proof.Machine.execTransmitFrame s
  | .officeFrameSent => Sys2Proof.Machine.execOfficeFrameSent s
  | .storeOperationDone verified => Sys2Proof.Machine.execStoreOperationDone verified s
  | .storeRollbackDone verified stored computed => Sys2Proof.Machine.execStoreRollbackDone verified stored computed s
  | .storeClearErasuresDone found => Sys2Proof.Machine.execStoreClearErasuresDone found s
  | .holderSample h crown pressure temperature => Sys2Proof.Machine.execHolderSample h crown pressure temperature s
  | .barometerSample code => Sys2Proof.Machine.execBarometerSample code s
  | .faultTaken position => Sys2Proof.Machine.execFaultTaken position s
  | .limitEvent h side switch made => Sys2Proof.Machine.execLimitEvent h side switch made s
  | .valveTravelTimeout h side => Sys2Proof.Machine.execValveTravelTimeout h side s
  | .makePulse => Sys2Proof.Machine.execMakePulse s
  | .makeFlowingExpiry => Sys2Proof.Machine.execMakeFlowingExpiry s
  | .minuteEvent => Sys2Proof.Machine.execMinuteEvent s
  | .stationReadDue d => Sys2Proof.Machine.execStationReadDue d s
  | .telemetryQuietEnd => Sys2Proof.Machine.execTelemetryQuietEnd s
  | .telemetryTransmitDone => Sys2Proof.Machine.execTelemetryTransmitDone s
  | .telemetryByteReceived b => Sys2Proof.Machine.execTelemetryByteReceived b s
  | .replyWindowExpiry => Sys2Proof.Machine.execReplyWindowExpiry s
  | .resetPulseStart => Sys2Proof.Machine.execResetPulseStart s
  | .resetPulseEnd => Sys2Proof.Machine.execResetPulseEnd s
  | .resetPulseLong => Sys2Proof.Machine.execResetPulseLong s
  | .warmRestartBegin => Sys2Proof.Machine.execWarmRestartBegin s
  | .powerUp strap limits broken => Sys2Proof.Machine.execPowerUp strap limits broken s
  | .yardClockSecond => Sys2Proof.Machine.execYardClockSecond s

end Sys2Proof.Machine
end

