-- ==== Sys2Proof/Machine/Frames.lean ====
section
/-! DEFINITION. The bytes of every reply and notice (chapter 12): what the office line carries of a frame begun by the
transmitter. Layouts given in full by R205 to R207 stand as given; the others follow R201 with the types of log 19. -/

namespace Sys2Proof.Machine

/-! ### Codes of names (R201, R206) -/

/-- A holder as its index. -/
def holderIndex : HolderId → Nat
  | .h1 => 1
  | .h2 => 2
  | .h3 => 3
  | .h4 => 4

/-- A district as its index. -/
def districtIndex : DistrictId → Nat
  | .d1 => 1
  | .d2 => 2
  | .d3 => 3

/-- R206: INLET 0, OUTLET 1. -/
def sideCode : Side → Nat
  | .inlet => 0
  | .outlet => 1

/-- R206: the number of a record of the Definition Store. -/
def recordIndex : RecordId → Nat
  | .identity => 0
  | .yard => 1
  | .holder h => 1 + holderIndex h
  | .district d => 5 + districtIndex d

/-- R175: the result codes. -/
def Result.code : Result → Nat
  | .done => 0
  | .busy => 1
  | .unknownKind => 2
  | .badLength => 3
  | .outOfRange => 4
  | .notDefined => 5
  | .wrongState => 6
  | .full => 7
  | .interlock => 8
  | .locked => 9
  | .empty => 10
  | .tooLate => 11
  | .notFound => 12
  | .storeFailed => 13
  | .silent => 14

/-- R44, R201: the valve states. -/
def ValveState.code : ValveState → Nat
  | .closed => 0
  | .opening => 1
  | .opened => 2
  | .closing => 3
  | .stuck => 4
  | .disagree => 5
  | .unknown => 6

/-- R44: the commanded positions OPEN, CLOSED, NONE. -/
def commandedCode : Option Position → Nat
  | some p => positionCode p
  | none => 2

/-- R44: the command sources in their order. -/
def Source.code : Source → Nat
  | .order _ => 0
  | .landingTrip => 1
  | .topTrip => 2
  | .restored => 3

/-- R44: a command source with its order number. -/
def Source.bytes (s : Source) : List Byte :=
  u8 s.code ++ match s with
    | .order n => u16 n
    | .landingTrip => optU16 none
    | .topTrip => optU16 none
    | .restored => optU16 none

/-- R59: the events of a VALVE notice. -/
def ValveEvent.code : ValveEvent → Nat
  | .initial => 0
  | .moving => 1
  | .reversed => 2
  | .arrived => 3
  | .arrivedLate => 4
  | .stuck => 5
  | .disagree => 6
  | .tripHeld => 7

/-- R51: the connection states. -/
def ConnState.code : ConnState → Nat
  | .isolated => 0
  | .filling => 1
  | .drawing => 2
  | .floating => 3

/-- R206: FOLLOW 0, LATCH 1. -/
def BandMode.code : BandMode → Nat
  | .follow => 0
  | .latch => 1

/-- R206: LANDING 0, TOP 1. -/
def TripKind.code : TripKind → Nat
  | .landing => 0
  | .top => 1

/-- R206: the programme states. -/
def ProgState.code : ProgState → Nat
  | .idle => 0
  | .running => 1
  | .paused => 2
  | .endHold => 3
  | .starved => 4

/-- R206: the booster reasons. -/
def BoosterReason.code : BoosterReason → Nat
  | .currentStep => 0
  | .lookAhead => 1
  | .governorWide => 2

/-- R206: the release causes. -/
def ReleaseCause.code : ReleaseCause → Nat
  | .minimumRunServed => 0
  | .starved => 1
  | .cleared => 2
  | .redefined => 3

/-- R206: the station states. -/
def StationState.code : StationState → Nat
  | .unpolled => 0
  | .responding => 1
  | .silent => 2

/-- R155: the close causes. -/
def CloseCause.code : CloseCause → Nat
  | .regular => 0
  | .clockSet => 1
  | .restart => 2
  | .holder => 3
  | .district => 4

/-- R206: the fault causes in the order of section 11.1. -/
def FaultCause.code : FaultCause → Nat
  | .gaugeLost => 0
  | .gaugeJump => 1
  | .gaugeDisagree => 2
  | .valveStuck => 3
  | .valveDisagree => 4
  | .landingTrip => 5
  | .topTrip => 6
  | .stationSilent => 7
  | .storeRecordLost => 8

/-- R204: the order kinds. -/
def OrderKind.code : OrderKind → Nat
  | .fill => 0
  | .draw => 1
  | .changeover => 2
  | .isolate => 3

/-- R204: the end actions. -/
def EndAction.code : EndAction → Nat
  | .close => 0
  | .leave => 1

/-- R207: the phases, from 1. -/
def Phase.code : Phase → Nat
  | .openingInlet => 1
  | .runningFill => 2
  | .openingOutlet => 3
  | .runningDraw => 4
  | .openingNew => 5
  | .closingOld => 6
  | .closing => 7

/-- R82: the reasons of an end. -/
def EndReason.code : EndReason → Nat
  | .atTarget => 0
  | .atBand => 1
  | .done => 2
  | .trip => 3
  | .timedOut => 4
  | .failed => 5
  | .interlocked => 6
  | .cancelled => 7
  | .removed => 8

/-- R207: the interlocks and flags named by an end record. -/
def Interlock.code : Interlock → Nat
  | .landed => 0
  | .top => 1
  | .lastInlet => 2
  | .lastOutlet => 3
  | .bothLast => 4
  | .landingNear => 5
  | .topNear => 6
  | .aOutletNotOpen => 7

/-! ### Common parts -/

/-- R206: a flag set. -/
def Flags.byte (f : Flags) : List Byte := u8 (setBits [f.landed, f.top, f.landingNear, f.topNear])

/-- R40: the suspect reasons as a set. -/
def Reasons.byte (r : Reasons) : List Byte := u8 (setBits [r.gaugeHeld, r.barometerHeld, r.pressureDisagree])

/-- R207: the marks of a record as a set. -/
def Marks.byte (m : Marks) : List Byte :=
  u8 (setBits [m.suspect, m.partialPeriod, m.clockUnset, m.saturated, m.newBase])

/-- R44: the two limit readings, the open limit first, each made or not. -/
def limitBytes (l : ValveLimits) : List Byte := yesNo l.openMade ++ yesNo l.closedMade

/-- A part that may be absent: a presence mark, then its bytes, or as many no-value bytes of a given filling. -/
def presence {α : Type} (o : Option α) (bytes : α → List Byte) (absent : List Byte) : List Byte :=
  match o with
  | some a => u8 1 ++ bytes a
  | none => u8 0 ++ absent

/-- A code that may be absent, FFh for none. -/
def optCode {α : Type} (o : Option α) (code : α → Nat) : List Byte := optU8 (o.map code)

/-- The figures of a holder (R21). -/
def Figures.bytes (f : Figures) : List Byte :=
  u16 f.h ++ u16 f.pg ++ s16 f.t ++ u16 f.baro ++ u8 f.lifts ++ u32 f.swept ++ u32 f.factor ++ u32 f.stock ++
  u32 f.capacity ++ u32 f.freeRoom

/-- The no-value codes of absent figures. -/
def figuresAbsent : List Byte :=
  optU16 none ++ optU16 none ++ u16 0x8000 ++ optU16 none ++ optU8 none ++ optU32 none ++ optU32 none ++
  optU32 none ++ optU32 none ++ optU32 none

/-- R207: a send-out list: a count and its entries. -/
def sendOutBytes (l : List (DistrictId × Nat)) : List Byte :=
  u8 l.length ++ (l.map fun e => u8 (districtIndex e.1) ++ u32 e.2).flatten

/-- R206: the programme summary, 9 bytes. DESIGN CHOICE (log 49): the repeat flag on is sent as 1. -/
def Summary.bytes (s : Summary) : List Byte :=
  u8 s.state.code ++ u8 s.current ++ optU8 s.last ++ yesNo s.repeats ++ u8 s.repeatStart ++ u16 s.remaining ++
  u16 s.setPoint

/-! ### Faults (R206) -/

/-- R206: the object byte of a fault. -/
def FaultObject.index : FaultObject → List Byte
  | .holder h => u8 (holderIndex h)
  | .gauge h _ => u8 (holderIndex h)
  | .barometer => optU8 none
  | .valve h _ => u8 (holderIndex h)
  | .district d => u8 (districtIndex d)
  | .record r => u8 (recordIndex r)

/-- R206: the part byte of a fault. -/
def FaultObject.part : FaultObject → List Byte
  | .gauge _ .crown => u8 0
  | .gauge _ .pressure => u8 1
  | .gauge _ .temperature => u8 2
  | .valve _ side => u8 (sideCode side)
  | .holder _ => optU8 none
  | .barometer => optU8 none
  | .district _ => optU8 none
  | .record _ => optU8 none

/-- R206: cause, object, part and details of a fault, 11 bytes. -/
def FaultReport.bytes (f : FaultReport) : List Byte :=
  u8 f.cause.code ++ f.object.index ++ f.object.part ++ optS32 f.detail1 ++ optS32 f.detail2

/-- R193, R196: a filled record. -/
def FirstFault.bytes (f : FirstFault) : List Byte := f.fault.bytes ++ u32 f.minute ++ yesNo f.clockUnset

/-- The no-value codes of an empty record. -/
def faultAbsent : List Byte :=
  optU8 none ++ optU8 none ++ optU8 none ++ optS32 none ++ optS32 none ++ optU32 none ++ optU8 none

/-! ### Orders (R207) -/

/-- R207: an order entry, 16 bytes. -/
def Order.bytes (o : Order) : List Byte :=
  u16 o.number ++ u8 o.kind.code ++ u8 (holderIndex o.holder) ++ optCode o.second holderIndex ++ optU32 o.target ++
  u16 o.deadline ++ optCode o.endAction EndAction.code ++ u8 ((o.phase.map Phase.code).getD 0) ++ u16 o.minutesRun ++
  yesNo o.arrivalPending

/-- R207: the cause object and the cause code of an end. -/
def EndCause.bytes : EndCause → List Byte
  | .none => optU8 Option.none ++ optU8 Option.none
  | .trip h kind => u8 (holderIndex h) ++ u8 kind.code
  | .valve h side st => u8 (2 * holderIndex h + sideCode side) ++ u8 st.code
  | .interlock h w => u8 (holderIndex h) ++ u8 w.code

/-- R207: an end record, 25 bytes. -/
def EndRecord.bytes (r : EndRecord) : List Byte :=
  u16 r.number ++ u8 r.kind.code ++ u8 (holderIndex r.holder) ++ optCode r.second holderIndex ++ optU32 r.target ++
  optCode r.endAction EndAction.code ++ optCode r.phase Phase.code ++ u16 r.minutesRun ++ u8 r.reason.code ++
  u8 (setBits [r.inletHeld, r.outletHeld]) ++ r.cause.bytes ++ optU32 r.lastStock ++ u32 r.minute

/-! ### Account records (R207) -/

/-- R207: the hour record. -/
def HourRecord.bytes (r : HourRecord) : List Byte :=
  u32 r.number ++ u32 r.day ++ u32 r.start ++ u32 r.duration ++ u8 r.cause.code ++ r.marks.byte ++ u32 r.make ++
  sendOutBytes r.sendOuts ++ u32 r.opening ++ u8 r.holders.length ++
  (r.holders.map fun e => u8 (holderIndex e.1) ++ optU32 e.2).flatten ++ u32 r.closing ++ s32 r.change ++
  s64 r.unaccounted

/-- R207: the day record. -/
def DayRecord.bytes (r : DayRecord) : List Byte :=
  u32 r.number ++ u32 r.start ++ u32 r.duration ++ u8 r.cause.code ++ r.marks.byte ++ u32 r.make ++
  sendOutBytes r.sendOuts ++ u32 r.opening ++ u32 r.closing ++ s64 r.change ++ s64 r.unaccounted

/-! ### Notices (R178, R205, R206) -/

/-- R178: the kind byte of a notice. -/
def NoticeContent.kind : NoticeContent → Byte
  | .band _ _ _ _ _ _ _ => 0x80#8
  | .trip _ _ _ _ _ => 0x81#8
  | .valve _ => 0x82#8
  | .orderEnd _ => 0x83#8
  | .step _ _ _ _ _ => 0x84#8
  | .programme _ => 0x85#8
  | .pressure _ => 0x86#8
  | .station _ => 0x87#8
  | .period _ => 0x88#8
  | .fault _ _ _ => 0x89#8

/-- R59: a VALVE notice. DESIGN CHOICE (log 46): make relief asserted is sent as 1, released as 0. -/
def ValveNotice.bytes (n : ValveNotice) : List Byte :=
  u8 (holderIndex n.holder) ++ u8 (sideCode n.side) ++ u8 n.event.code ++ u8 n.state.code ++
  u8 (commandedCode n.commanded) ++ n.source.bytes ++ limitBytes n.limits ++ u8 n.conn.code ++ yesNo n.relief ++
  yesNo n.reliefChanged

/-- R206: the events of a PROGRAMME notice. -/
def ProgEvent.code : ProgEvent → Nat
  | .lastStepReached => 0
  | .cycleComplete => 1
  | .starved => 2
  | .outletRestored => 3

/-- R206: a PROGRAMME notice, 14 bytes. DESIGN CHOICE (log 49): the repeat flag on is sent as 1. -/
def ProgNotice.bytes (n : ProgNotice) : List Byte :=
  u8 (districtIndex n.district) ++ u8 n.event.code ++ u8 n.state.code ++ u8 n.current ++ optU8 n.last ++
  yesNo n.repeats ++ u8 n.repeatStart ++ u16 n.remaining ++ u16 n.setPoint ++ yesNo n.repeatRefused ++
  optCode n.holder holderIndex ++ optCode n.trip TripKind.code

/-- R206: the event of a PRESSURE notice. -/
def PressureEvent.code : PressureEvent → Nat
  | .boosterCalled _ => 0
  | .boosterReleased _ => 1
  | .shortEntered => 2
  | .shortEnded => 3
  | .low _ => 4

/-- R206: the booster reason, the release cause and the LOW fields, each its no-value code but at its own event
(log 26). -/
def PressureEvent.further : PressureEvent → List Byte
  | .boosterCalled reason => optCode reason BoosterReason.code ++ optU8 none ++ optU16 none ++ optU16 none ++ optU8 none
  | .boosterReleased cause => optU8 none ++ u8 cause.code ++ optU16 none ++ optU16 none ++ optU8 none
  | .shortEntered => optU8 none ++ optU8 none ++ optU16 none ++ optU16 none ++ optU8 none
  | .shortEnded => optU8 none ++ optU8 none ++ optU16 none ++ optU16 none ++ optU8 none
  | .low d => optU8 none ++ optU8 none ++ u16 d.slot1 ++ u16 d.confirmed ++ u8 d.tolerance

/-- R206: M, C and E, each FFFFh for none. -/
def lastFiguresBytes (f : Option LastFigures) : List Byte :=
  optU16 (f.map LastFigures.main) ++ optU16 (f.map LastFigures.ceiling) ++ optU16 (f.map LastFigures.effective)

/-- R206: a PRESSURE notice, 20 bytes. -/
def PressureNotice.bytes (n : PressureNotice) : List Byte :=
  u8 (districtIndex n.district) ++ u8 n.event.code ++ u8 n.state.code ++ u16 n.setPoint ++ lastFiguresBytes n.figures ++
  yesNo n.boosterCalled ++ yesNo n.short ++ n.event.further

/-- R206: a STATION notice, 6 bytes. -/
def StationNotice.bytes (n : StationNotice) : List Byte :=
  u8 (districtIndex n.district) ++ u8 n.address ++ u8 n.before.code ++ u8 n.after.code ++
  optCode n.function TeleFunction.enumCode ++ optCode n.failure FailureKind.code

/-- R206: HOUR 0, DAY 1. -/
def PeriodKind.code : PeriodKind → Nat
  | .hour => 0
  | .day => 1

/-- R206: a PERIOD notice, 51 bytes. -/
def PeriodNotice.bytes (n : PeriodNotice) : List Byte :=
  u8 n.kind.code ++ u32 n.number ++ u32 n.start ++ u32 n.duration ++ u8 n.cause.code ++ n.marks.byte ++ u32 n.make ++
  s64 n.sendOutSum ++ u32 n.opening ++ u32 n.closing ++ s64 n.change ++ s64 n.unaccounted

/-- R205, R206: the content of a notice, after its header. -/
def NoticeContent.bytes : NoticeContent → List Byte
  | .band h flags changed stock room mode minute =>
    u8 (holderIndex h) ++ flags.byte ++ changed.byte ++ u32 stock ++ u32 room ++ u8 mode.code ++ u32 minute
  | .trip h kind crown stock minute => u8 (holderIndex h) ++ u8 kind.code ++ u16 crown ++ u32 stock ++ u32 minute
  | .valve n => n.bytes
  | .orderEnd r => r.bytes
  | .step d index target setPoint next =>
    u8 (districtIndex d) ++ u8 index ++ u16 target ++ u16 setPoint ++ optU8 next
  | .programme n => n.bytes
  | .pressure n => n.bytes
  | .station n => n.bytes
  | .period n => n.bytes
  | .fault f filled further => f.bytes ++ yesNo filled ++ yesNo further

/-- R205: the body of a notice with the dropped mark it carries. -/
def Notice.body (n : Notice) (dropped : Bool) : List Byte :=
  u32 n.minute ++ u8 (setBits [n.clockUnset, dropped]) ++ n.content.bytes

/-! ### Replies (R175, R205 to R207) -/

/-- R206: the condition and the text of the works identity. -/
def Identity.bytes : Identity → List Byte
  | .isSet chars => u8 0 ++ text chars
  | .unset => u8 1 ++ text []
  | .unreadable => u8 2 ++ text []

/-- R206: the store operation in flight and its record. -/
def activityBytes : Option StoreActivity → List Byte
  | some (.write r) => u8 0 ++ u8 (recordIndex r)
  | some (.erasure r) => u8 1 ++ u8 (recordIndex r)
  | some .clear => u8 2 ++ optU8 none
  | none => optU8 none ++ optU8 none

/-- The members of a holder set. -/
def PerHolder.bits (p : PerHolder Bool) : List Bool := [p.h1, p.h2, p.h3, p.h4]

/-- The members of a district set. -/
def PerDistrict.bits (p : PerDistrict Bool) : List Bool := [p.d1, p.d2, p.d3]

/-- R206: the lost list, bit k for record k. -/
def lostBits (p : PerRecord Bool) : Nat :=
  setBits ([p.identity, p.yard] ++ PerHolder.bits p.holders ++ PerDistrict.bits p.districts)

/-- R169: the speed in baud. -/
def speedBaud : OfficeSpeed → Nat
  | .baud9600 => 9600
  | .baud19200 => 19200

/-- R206: the DONE reply to IDENTIFY. -/
def IdentifyReply.bytes (r : IdentifyReply) : List Byte :=
  text Config.productName ++ r.identity.bytes ++ u8 r.settings.dayStart ++ u16 r.settings.pulseWeight ++
  u16 r.settings.speed ++ u16 r.settings.window ++ u8 r.settings.quiet ++ yesNo r.defaults ++
  u8 (setBits (PerHolder.bits r.holders)) ++ u8 (setBits (PerDistrict.bits r.districts)) ++ activityBytes r.activity ++
  u16 (lostBits r.lost) ++ u16 (speedBaud r.speed)

/-- R21, R44: a valve in HOLDER STATUS. -/
def ValveRec.bytes (v : ValveRec) : List Byte :=
  u8 (commandedCode v.commanded) ++ v.source.bytes ++ u8 v.state.code ++ limitBytes v.limits ++ u16 v.travelTime ++
  optU16 v.timeout

/-- R21: the DONE reply to HOLDER STATUS. -/
def HolderStatusReply.bytes (r : HolderStatusReply) : List Byte :=
  u8 r.lifts ++ u16 r.hmax ++ u32 r.vsmax ++ u16 r.span ++ presence r.figures Figures.bytes figuresAbsent ++
  yesNo r.crownHeld ++ yesNo r.crownLost ++ yesNo r.pressureHeld ++ yesNo r.pressureLost ++
  yesNo r.temperatureHeld ++ yesNo r.temperatureLost ++ yesNo r.barometerHeld ++ yesNo r.barometerLost ++
  u8 r.discards ++ r.reasons.byte ++ r.flags.byte ++ u8 r.mode.code ++ u32 r.lowOffset ++ u32 r.highOffset ++
  u8 r.disagreeCount ++ u8 r.agreeCount ++ u8 r.conn.code ++ r.inlet.bytes ++ r.outlet.bytes ++ optU32 r.lastSample

/-- R66: the standing of an order: QUEUED 0, ACTIVE 1 with its phase, ENDED 2 with its reason (log 20). -/
def Standing.bytes : Standing → List Byte
  | .queued => u8 0 ++ optU8 none ++ optU8 none
  | .active p => u8 1 ++ u8 p.code ++ optU8 none
  | .ended r => u8 2 ++ optU8 none ++ u8 r.code

/-- R86: a district definition with its index. -/
def DistrictDef.bytes (d : DistrictDef) (i : DistrictId) : List Byte :=
  u8 (districtIndex i) ++ u8 d.address ++ u16 d.minimum ++ u16 d.maximum ++ u8 d.lossAllowance ++ yesNo d.booster ++
  u8 d.boosterLead ++ u8 d.tolerance ++ u16 d.pulseWeight ++ u16 d.pollInterval

/-- R121, R201: a slot used, its value or the no-value code of its type, then its estimated mark. DESIGN CHOICE (log 19):
the mark of a slot without a value is sent as FFh. -/
def slotUseBytes (s : Option SlotUse) (value : Option Nat → List Byte) : List Byte :=
  value (s.map SlotUse.value) ++ optCode s fun u => u.estimated.toNat

/-- R121: M, C and E, led by a presence mark. -/
def statusFiguresBytes (f : Option LastFigures) : List Byte :=
  presence f (fun x => u16 x.main ++ u16 x.ceiling ++ u16 x.effective) (optU16 none ++ optU16 none ++ optU16 none)

/-- R121: the DONE reply to DISTRICT STATUS. DESIGN CHOICE (log 47): the definition in force and the reserved mark, which
both R121's first row and R90's parts name, are sent once each, in the first row's place. -/
def DistrictStatusReply.bytes (r : DistrictStatusReply) : List Byte :=
  r.defn.bytes r.district ++ yesNo r.reserved ++ u8 r.summary.current ++ optU8 r.summary.last ++
  yesNo r.summary.repeats ++ u8 r.summary.repeatStart ++ u16 r.summary.remaining ++ u16 r.summary.setPoint ++
  u8 r.summary.state.code ++ optCode r.beforePause ProgState.code ++ optCode r.beforeStarve ProgState.code ++
  optCode r.starvingTrip holderIndex ++ statusFiguresBytes r.figures ++ u16 r.loss ++ u16 r.lossUsed ++
  slotUseBytes r.slotsUsed.s1 optU16 ++ slotUseBytes r.slotsUsed.s2 optU8 ++ slotUseBytes r.slotsUsed.s3 optU16 ++
  yesNo r.boosterCalled ++ u8 r.boosterRun ++ optCode r.boosterReason BoosterReason.code ++ yesNo r.short ++
  u8 r.lowCount ++ yesNo r.lowReported ++ optU16 r.confirmed ++ yesNo r.openingWrite ++ optU16 r.pendingWrite ++
  u8 r.station.code

/-- R205: the DONE reply to READ STEP. -/
def stepEntryBytes (entry : Option Step) (m : StepMarks) : List Byte :=
  (match entry with
    | some e =>
      u8 1 ++ u16 e.target ++ u8 e.ramp ++ u16 e.hold ++ u8 (setBits [e.report, e.boost])
    | none => u8 0 ++ [0#8, 0#8, 0#8, 0#8, 0#8, 0#8]) ++
  u8 (setBits [m.isCurrent, m.isLast, m.committed, m.isRepeatStart])

/-- R201: a meter count, whose range reaches every code of a u24: a presence mark in place of a no-value code. -/
def countBytes (n : Option Nat) : List Byte := presence n u24 (List.replicate 3 0xFF#8)

/-- R138: a point slot: its value or no value, in the code of its type, and its two marks. -/
def Slot.bytes (s : Slot) (value : Option Nat → List Byte) : List Byte :=
  value s.value ++ yesNo s.fresh ++ yesNo s.overflow

/-- R138: what an exchange serves. DESIGN CHOICE (log 45): 0 in the district's place names the pass-through. -/
def servedByte : Served → List Byte
  | .district d => u8 (districtIndex d)
  | .pass => u8 0

/-- R138: the exchange on the line. -/
def LineView.bytes (l : LineView) : List Byte := u8 l.function.enumCode ++ servedByte l.served ++ u8 l.attempt

/-- R136, R201: the states of the pass-through slot in their listed order. -/
def PassState.code : PassState → Nat
  | .empty => 0
  | .waiting => 1
  | .inFlight => 2

/-- R138: the pass-through slot of STATION STATUS: its state, and its address where one is held. -/
def PassView.bytes : PassView → List Byte
  | .empty => u8 PassState.empty.code ++ optU8 none
  | .waiting a => u8 PassState.waiting.code ++ u8 a
  | .inFlight a => u8 PassState.inFlight.code ++ u8 a

/-- R138: the DONE reply to STATION STATUS. DESIGN CHOICE (log 48): a yes-or-no field says whether the read is due, and
the u32 of whole seconds after it is the overdue time where it is and the time until it falls due where it is not. -/
def StationStatusReply.bytes (r : StationStatusReply) : List Byte :=
  u8 r.address ++ u16 r.pollInterval ++ u8 r.state.code ++ optU32 r.lastGood ++ optCode r.lastFailure FailureKind.code ++
  yesNo r.due ++ u32 r.seconds ++ r.slot0.bytes countBytes ++ r.slot1.bytes optU16 ++ r.slot2.bytes optU8 ++
  r.slot3.bytes optU16 ++
  optU16 r.pendingWrite ++ optU16 r.writeInFlight ++
  presence r.line LineView.bytes (optU8 none ++ optU8 none ++ optU8 none) ++ r.pass.bytes

/-- R164, R198: an opening total or its pending mark. DESIGN CHOICE (log 50): the mark is a presence mark, 1 with a total
formed and 0 while it is pending, when FFFFFFFFh stands in the total's place. -/
def openingBytes (opening : Option Nat) : List Byte := presence opening u32 (optU32 none)

/-- R164: the DONE reply to RUNNING TOTALS. -/
def RunningReply.bytes (r : RunningReply) : List Byte :=
  u32 r.hourNumber ++ u32 r.dayNumber ++ u32 r.start ++ u32 r.duration ++ u32 r.make ++ sendOutBytes r.sendOuts ++
  openingBytes r.opening ++ u32 r.stock ++ s32 r.change ++ s64 r.unaccounted ++ r.marks.byte ++
  u32 r.dayNumber ++ u32 r.dayStart ++ u32 r.dayDuration ++ r.dayMarks.byte ++ u32 r.dayMake ++
  sendOutBytes r.daySendOuts ++ openingBytes r.dayOpening ++ u32 r.dayClosing ++ s64 r.dayChange ++
  s64 r.dayUnaccounted

/-- R198: stock, capacity and free room of a holder with figures. -/
def yardFigures (f : Figures) : List Byte := u32 f.stock ++ u32 f.capacity ++ u32 f.freeRoom

/-- R198, R201: the holder part of one index, led by its defined mark. DESIGN CHOICE (log 44): the two sets of an
undefined index, the flags and the reasons, are sent as FFh. -/
def yardHolderBytes (o : Option YardHolder) : List Byte :=
  presence o (fun h => presence h.figures yardFigures (optU32 none ++ optU32 none ++ optU32 none) ++ h.flags.byte ++
      u8 h.mode.code ++ h.reasons.byte)
    (optU8 none ++ optU32 none ++ optU32 none ++ optU32 none ++ optU8 none ++ optU8 none ++ optU8 none)

/-- R198: the manifold part of one index, led by its defined mark. -/
def yardValveBytes (o : Option YardHolder) : List Byte :=
  presence o (fun h => u8 h.conn.code ++ u8 h.inlet.code ++ u8 h.outlet.code) (optU8 none ++ optU8 none ++ optU8 none)

/-- R198: the district part of one index, led by its defined mark. -/
def yardDistrictBytes (o : Option YardDistrict) : List Byte :=
  presence o (fun d => u8 d.state.code ++ yesNo d.boosterCalled ++ yesNo d.short ++ yesNo d.lowReported)
    (optU8 none ++ optU8 none ++ optU8 none ++ optU8 none)

/-- R198: the station part of one index, led by its defined mark. -/
def yardStationBytes (o : Option YardDistrict) : List Byte := presence o (fun d => u8 d.station.code) (optU8 none)

/-- A part sent for each of H1..H4. -/
def forHolders {α : Type} (p : PerHolder α) (f : α → List Byte) : List Byte := f p.h1 ++ f p.h2 ++ f p.h3 ++ f p.h4

/-- A part sent for each of D1..D3. -/
def forDistricts {α : Type} (p : PerDistrict α) (f : α → List Byte) : List Byte := f p.d1 ++ f p.d2 ++ f p.d3

/-- R198: the DONE reply to YARD STATUS. DESIGN CHOICE (logs 46, 49 and 54): make relief asserted, orders held, the
notice gate on and the clock set are each sent as 1. -/
def YardStatusReply.bytes (r : YardStatusReply) : List Byte :=
  u32 r.clock.minute ++ u8 r.clock.second ++ yesNo r.clock.isSet ++ forHolders r.holders yardHolderBytes ++
  forHolders r.holders yardValveBytes ++ yesNo r.makeFlowing ++ yesNo r.relief ++ u8 r.queued ++ u8 r.active ++
  yesNo r.held ++ forDistricts r.districts yardDistrictBytes ++ forDistricts r.districts yardStationBytes ++
  u8 r.pass.code ++ u32 r.hourNumber ++ u32 r.make ++ s64 r.sendOutSum ++ openingBytes r.opening ++
  u32 r.stock ++ r.marks.byte ++ u32 r.dayNumber ++ yesNo r.storeBusy ++ yesNo r.lostEmpty ++
  presence r.faultCause (fun k => u8 k.code) (optU8 none) ++ yesNo r.further ++ yesNo r.gate ++ u8 r.queueCount ++
  yesNo r.dropped ++ yesNo r.overrun

/-- R205: what a reply carries after its result code. DESIGN CHOICE (log 49): orders held and the notice gate on are sent
as 1, not held and off as 0. -/
def ReplyContent.bytes : ReplyContent → List Byte
  | .nothing => []
  | .identify r => r.bytes
  | .setClock minute second hour day => u32 minute ++ u8 second ++ optU32 hour ++ optU32 day
  | .holderStatus r => r.bytes
  | .submitted n st => u16 n ++ st.bytes
  | .orders held counter entries ends =>
    yesNo held ++ u16 counter ++ u8 entries.length ++ (entries.map Order.bytes).flatten ++ u8 ends.length ++
    (ends.map EndRecord.bytes).flatten
  | .hold held => yesNo held
  | .districtStatus r => r.bytes
  | .stepEntry e m => stepEntryBytes e m
  | .summary s => s.bytes
  | .stationStatus r => r.bytes
  | .marks m0 m1 m2 m3 => yesNo m0 ++ yesNo m1 ++ yesNo m2 ++ yesNo m3
  | .points count pressure travel house attempts =>
    u24 count ++ u16 pressure ++ u8 travel ++ u16 house ++ u8 attempts
  | .failure k => optCode k FailureKind.code
  | .hourRecord r => r.bytes
  | .dayRecord r => r.bytes
  | .writePosition n => u32 n
  | .cursor n => u32 n
  | .running r => r.bytes
  | .fault first further => presence first FirstFault.bytes faultAbsent ++ yesNo further
  | .yardStatus r => r.bytes
  | .gate on count => yesNo on ++ u8 count

/-- R205: the body of a reply. -/
def Reply.body (r : Reply) : List Byte := u8 r.result.code ++ r.content.bytes

/-- R175: the kind byte of a reply: the request's kind plus 40h. -/
def Reply.frameKind (r : Reply) : Byte := r.kind + 0x40#8

/-- R175, R178, R200: the bytes of a frame on the office line. -/
def TxFrame.bytes : TxFrame → List Byte
  | .reply r => officeFrame r.frameKind r.tag r.body
  | .notice n number dropped => officeFrame n.content.kind (BitVec.ofNat 8 number) (n.body dropped)

end Sys2Proof.Machine
end

