-- ==== Sys2Proof/Safety.lean ====
section
/-! DEFINITION. The words the statements are written in: when a request is taken, what an answered request leaves, runs
of bytes on the office line, and the invariants of the blocks. -/

namespace Sys2Proof

open Machine

/-- The kind byte (R203), the tag and the body of a request command; none for an event. -/
def Instr.request? : Instr → Option (Byte × Byte × List Byte)
  | .identify t b => some (0x01#8, t, b)
  | .setWorksIdentity t b => some (0x02#8, t, b)
  | .defineYard t b => some (0x03#8, t, b)
  | .storeClear t b => some (0x04#8, t, b)
  | .restart t b => some (0x05#8, t, b)
  | .setClock t b => some (0x06#8, t, b)
  | .defineHolder t b => some (0x08#8, t, b)
  | .removeHolder t b => some (0x09#8, t, b)
  | .setBands t b => some (0x0A#8, t, b)
  | .holderStatus t b => some (0x0B#8, t, b)
  | .submitOrder t b => some (0x10#8, t, b)
  | .cancelOrder t b => some (0x11#8, t, b)
  | .orderList t b => some (0x12#8, t, b)
  | .ordersHold t b => some (0x13#8, t, b)
  | .ordersResume t b => some (0x14#8, t, b)
  | .defineDistrict t b => some (0x18#8, t, b)
  | .removeDistrict t b => some (0x19#8, t, b)
  | .districtStatus t b => some (0x1A#8, t, b)
  | .writeStep t b => some (0x1B#8, t, b)
  | .readStep t b => some (0x1C#8, t, b)
  | .setLastStep t b => some (0x1D#8, t, b)
  | .programmeRun t b => some (0x1E#8, t, b)
  | .programmePause t b => some (0x1F#8, t, b)
  | .programmeClear t b => some (0x20#8, t, b)
  | .setRepeat t b => some (0x21#8, t, b)
  | .stationStatus t b => some (0x24#8, t, b)
  | .clearStationMarks t b => some (0x25#8, t, b)
  | .stationPass t b => some (0x26#8, t, b)
  | .readHourRecord t b => some (0x28#8, t, b)
  | .readDayRecord t b => some (0x29#8, t, b)
  | .rewindHours t b => some (0x2A#8, t, b)
  | .rewindDays t b => some (0x2B#8, t, b)
  | .runningTotals t b => some (0x2C#8, t, b)
  | .readFault t b => some (0x30#8, t, b)
  | .clearFault t b => some (0x31#8, t, b)
  | .yardStatus t b => some (0x32#8, t, b)
  | .noticesOn t b => some (0x33#8, t, b)
  | .noticesOff t b => some (0x34#8, t, b)
  | .receiveByte _ _ => none
  | .gapTimerExpiry => none
  | .transmitFrame => none
  | .officeFrameSent => none
  | .storeOperationDone _ => none
  | .storeRollbackDone _ _ _ => none
  | .storeClearErasuresDone _ => none
  | .holderSample _ _ _ _ => none
  | .barometerSample _ => none
  | .faultTaken _ => none
  | .limitEvent _ _ _ _ => none
  | .valveTravelTimeout _ _ => none
  | .makePulse => none
  | .makeFlowingExpiry => none
  | .minuteEvent => none
  | .stationReadDue _ => none
  | .telemetryQuietEnd => none
  | .telemetryTransmitDone => none
  | .telemetryByteReceived _ => none
  | .replyWindowExpiry => none
  | .resetPulseStart => none
  | .resetPulseEnd => none
  | .resetPulseLong => none
  | .warmRestartBegin => none
  | .powerUp _ _ _ => none
  | .yardClockSecond => none

/-- A change of every defined district. -/
def PerDistrict.each {α : Type} (p : PerDistrict (Option α)) (f : α → α) : PerDistrict (Option α) :=
  ⟨p.d1.map f, p.d2.map f, p.d3.map f⟩

namespace Machine

/-! ### Requests -/

/-- R174, R181: a good request frame that arrives now is taken. -/
def Ctl.admits (c : Ctl) : Prop :=
  c.powered = true ∧ c.office.restart = none ∧ c.office.outstanding < Config.outstandingMax

/-- R174: a request has been taken and is outstanding; nothing else has changed. -/
def Ctl.taken (c : Ctl) : Ctl := { c with office := { c.office with outstanding := c.office.outstanding + 1 } }

/-- R175, R177: a finished reply has joined the reply list as its newest; nothing else has changed. -/
def Ctl.repliedWith (c : Ctl) (kind tag : Byte) (result : Result) (content : ReplyContent) : Ctl :=
  { c with office := { c.office with
      replies := c.office.replies ++ [{ kind := kind, tag := tag, result := result, content := content }] } }

/-- R174, R175, R177: a request has been taken and its reply is the newest of the reply list; nothing else has changed. -/
def Ctl.answered (c : Ctl) (kind tag : Byte) (result : Result) (content : ReplyContent) : Ctl :=
  { c with office := { c.office with
      outstanding := c.office.outstanding + 1
      replies := c.office.replies ++ [{ kind := kind, tag := tag, result := result, content := content }] } }

/-- R184: a store operation is in flight for a request, which has been taken; nothing else has changed. -/
def Ctl.storing (c : Ctl) (kind tag : Byte) (work : StoreWork) : Ctl :=
  { c with
    office := { c.office with outstanding := c.office.outstanding + 1 }
    store := { c.store with op := some { kind := kind, tag := tag, work := work, rollback := false } } }

/-- R203: every assigned kind with the least and the greatest body length it admits, as the table lists them. -/
def requestLengths : List (Nat × Nat × Nat) :=
  [(0x01, 0, 0), (0x02, 1, 16), (0x03, 1, 9), (0x04, 0, 0), (0x05, 0, 0), (0x06, 7, 7), (0x08, 21, 59), (0x09, 1, 1),
   (0x0A, 3, 11), (0x0B, 1, 1), (0x10, 4, 9), (0x11, 2, 2), (0x12, 0, 0), (0x13, 0, 0), (0x14, 0, 0), (0x18, 12, 15),
   (0x19, 1, 1), (0x1A, 1, 1)] ++
  [(0x1B, 8, 8), (0x1C, 2, 2), (0x1D, 2, 2), (0x1E, 1, 1), (0x1F, 1, 1), (0x20, 1, 1), (0x21, 3, 3), (0x24, 1, 1),
   (0x25, 1, 1), (0x26, 1, 1), (0x28, 0, 0), (0x29, 0, 0), (0x2A, 0, 0), (0x2B, 0, 0), (0x2C, 0, 0), (0x30, 0, 0),
   (0x31, 0, 0), (0x32, 0, 0), (0x33, 0, 0), (0x34, 0, 0)]

/-- Bytes without a framing error heard one after another on the office line. -/
def Ctl.hears (c : Ctl) (bytes : List Byte) : Ctl := bytes.foldl (fun c b => c.receiveByte b false) c

/-- The records of the office that a posted notice can change: the queue and the dropped mark. -/
def Office.samePosts (a b : Office) : Prop := a = { b with queue := a.queue, dropped := a.dropped }

/-! ### Request bodies (R204), every optional field present -/

/-- R204: the area and travel of a lift. -/
def Lift.body (l : Lift) : List Byte := u32 l.area ++ u16 l.travel

/-- R204: the codes of a band mode. -/
def BandMode.body : BandMode → List Byte
  | .follow => u8 0
  | .latch => u8 1

/-- R204: a body of DEFINE HOLDER. -/
def holderBody (index : Nat) (d : HolderDef) : List Byte :=
  u8 index ++ u8 d.lifts.length ++ (d.lifts.map Lift.body).flatten ++ (d.expected.map u16).flatten ++
  u32 d.landedVolume ++ u16 d.span ++ u16 d.inletTime ++ u16 d.outletTime ++ u8 0x3F ++ u16 d.landingMargin ++
  u16 d.topMargin ++ u8 d.tolerance ++ u32 d.lowOffset ++ u32 d.highOffset ++ d.mode.body

/-- R204: a body of DEFINE DISTRICT. -/
def districtBody (index : Nat) (d : DistrictDef) : List Byte :=
  u8 index ++ u8 d.address ++ u16 d.minimum ++ u16 d.maximum ++ u8 d.lossAllowance ++ yesNo d.booster ++
  u8 d.boosterLead ++ u16 d.pulseWeight ++ u8 3 ++ u8 d.tolerance ++ u16 d.pollInterval

/-- R204: a body of DEFINE YARD. -/
def yardBody (y : YardDef) : List Byte :=
  u8 0x1F ++ u8 y.dayStart ++ u16 y.pulseWeight ++ u16 y.speed ++ u16 y.window ++ u8 y.quiet

/-! ### Supervision -/

/-- R37 to R39: the counters and the reason after one more sample, checked or not, disagreeing or not. -/
def CheckResult.after (k : CheckResult) (sample : Bool × Bool) : CheckResult :=
  pressureCheck sample.1 sample.2 k.disagreeCount k.agreeCount k.reason

/-- R37 to R39: the counters and the reason after a run of samples. -/
def CheckResult.run (k : CheckResult) (samples : List (Bool × Bool)) : CheckResult := samples.foldl CheckResult.after k

/-! ### Valves and the supply -/

/-- R105: a STARVED programme back in its state before starvation; any other as it was. -/
def DistrictRec.outletBack (r : DistrictRec) : DistrictRec :=
  match r.prog.state, r.prog.beforeStarve with
  | .starved, some p => { r with prog := { r.prog with state := p, beforeStarve := none, starvingTrip := none } }
  | _, _ => r

/-- R104, R115: a RUNNING or END-HOLD programme STARVED by the landing trip of a holder, its booster released; any other
as it was. -/
def DistrictRec.outletLost (h : HolderId) (r : DistrictRec) : DistrictRec :=
  if r.prog.state = .running ∨ r.prog.state = .endHold then
    { r with
      prog := { r.prog with state := .starved, beforeStarve := some r.prog.state, starvingTrip := some h }
      boosterCalled := false, boosterRun := 0 }
  else r

/-- R48 to R51, R57, R105: what a valve that has come to rest leaves where no order waits: its record, make relief
released by an inlet at OPEN, the starved programmes restored by an outlet at OPEN, the faults handed over. -/
def Ctl.rested (c : Ctl) (h : HolderId) (side : Side) (r : HolderRec) (v : ValveRec) (faults : List FaultReport)
    (o : Office) : Ctl :=
  let opens (x : Side) : Bool := side == x && v.state == .opened
  { c with
    holders := c.holders.put h (some (r.putValve side v))
    relief := c.relief && !opens .inlet
    districts := if opens .outlet then c.districts.each DistrictRec.outletBack else c.districts
    faults := { c.faults with handed := c.faults.handed ++ faults }
    office := o }

/-- R59: the VALVE notice of a valve that has come to rest. -/
def Ctl.restNote (c : Ctl) (h : HolderId) (side : Side) (r : HolderRec) (v : ValveRec) (event : ValveEvent) :
    NoticeContent :=
  let released : Bool := c.relief && side == .inlet && v.state == .opened
  .valve { holder := h, side := side, event := event, state := v.state, commanded := v.commanded, source := v.source
           limits := v.limits, conn := r.connection, relief := c.relief && !released, reliefChanged := released }

/-- R45: a valve record as the limits read at its creation show it. -/
def ValveRec.asCreated (v : ValveRec) (l : ValveLimits) (travelTime : Nat) : Prop :=
  v.limits = l ∧ v.source = .restored ∧ v.travelTime = travelTime ∧ v.timeout = none ∧
  (l.openMade = true → l.closedMade = false → v.state = .opened ∧ v.commanded = some .opened) ∧
  (l.openMade = false → l.closedMade = true → v.state = .closed ∧ v.commanded = some .closed) ∧
  (l.openMade = true → l.closedMade = true → v.state = .disagree ∧ v.commanded = none) ∧
  (l.openMade = false → l.closedMade = false → v.state = .unknown ∧ v.commanded = none)

/-! ### Orders -/

/-- R64, R82: the ended list with a newest record. -/
def Sequencer.endedWith (q : Sequencer) (r : EndRecord) : List EndRecord :=
  if q.ended.length < 4 then q.ended ++ [r] else q.ended.drop 1 ++ [r]

/-- R82: the end record of an order that ends as it stands in a controller, without a mark of a held valve. -/
def Order.endsAs (o : Order) (c : Ctl) (reason : EndReason) (cause : EndCause) : EndRecord :=
  { number := o.number, kind := o.kind, holder := o.holder, second := o.second, target := o.target
    endAction := o.endAction, phase := o.phase, minutesRun := o.minutesRun, reason := reason, inletHeld := false
    outletHeld := false, cause := cause
    lastStock := if o.kind = .fill ∨ o.kind = .draw then c.seq.lastStock.get o.holder else none
    minute := c.clock.minute }

/-- R82: an order has ended with a record: it has left the list, and ORDER END is posted. -/
def Ctl.orderLeft (c : Ctl) (r : EndRecord) : Ctl :=
  { c with seq := { c.seq with
      orders := c.seq.orders.filter fun p => p.number != r.number, ended := c.seq.endedWith r } }.post (.orderEnd r)

/-- R64: the order of the list with an order's number has become that order, in its place. -/
def Ctl.orderKept (c : Ctl) (o : Order) : Ctl :=
  { c with seq := { c.seq with orders := c.seq.orders.map fun p => if p.number = o.number then o else p } }

/-- R67, R188: a holder an order names is engaged by an ACTIVE order, or reserved by the store operation in flight. -/
def Ctl.bars (c : Ctl) (o : Order) : Prop :=
  ∃ h, o.names h = true ∧ ((∃ p ∈ c.seq.orders, p.phase.isSome = true ∧ p.names h = true) ∨
    ∃ op, c.store.op = some op ∧ (op.work = .removeHolder h ∨ (∃ d, op.work = .defineHolder h d) ∨
      (op.work = .clear ∧ (c.holders.get h).isSome = true)))

/-- R71: a FILL or DRAW has come to its target, or, without one, to its band. -/
def Order.reached (o : Order) (g : Given) : Prop :=
  (o.kind = .fill ∧ ((∃ t, o.target = some t ∧ t ≤ g.stock) ∨ (o.target = none ∧ g.flags.topNear = true))) ∨
  (o.kind = .draw ∧ ((∃ t, o.target = some t ∧ g.stock ≤ t) ∨ (o.target = none ∧ g.flags.landingNear = true)))

/-- R71, R72, R82: a FILL or DRAW has ended with its end action applied to the valve it commanded. -/
def Ctl.flowEnded (c : Ctl) (o : Order) (reason : EndReason) (cause : EndCause) : Ctl :=
  let cmd := if o.endAction = some .close then
      c.orderCommand o.number o.holder (if o.kind = .fill then .inlet else .outlet) .closed
    else (c, .accepted)
  cmd.1.orderLeft { o.endsAs c reason cause with
    inletHeld := decide (cmd.2 = .interlock .lastInlet), outletHeld := decide (cmd.2 = .interlock .lastOutlet) }

/-- R74, R80: a CHANGEOVER in OPENING NEW has ended with holder b's outlet commanded CLOSED. -/
def Ctl.changeoverEnded (c : Ctl) (o : Order) (b : HolderId) (reason : EndReason) (cause : EndCause) : Ctl :=
  (c.orderCommand o.number b .outlet .closed).1.orderLeft (o.endsAs c reason cause)

/-- No ACTIVE order names the holder. -/
def Ctl.unengaged (c : Ctl) (h : HolderId) : Prop := ∀ o ∈ c.seq.orders, o.phase.isSome = true → o.names h = false

/-! ### The telemetry line -/

/-- R127, R129, R135: a district's exchange has failed for the third time: its failure kind is recorded, a write in flight
is abandoned, and a station that was not SILENT is, with its notice, its fault and the silence held for the accounts. -/
def Ctl.exchangeLost (c : Ctl) (e : Exchange) (d : DistrictId) (r : DistrictRec) (k : FailureKind) : Ctl :=
  let st : StationRec := { r.station with
    state := .silent, lastFailure := some k
    writeInFlight := if e.function = .readPoints then r.station.writeInFlight else none }
  let c' : Ctl := { c with line := none, districts := c.districts.put d (some { r with station := st }) }
  if r.station.state = .silent then c'
  else
    let t : Ctl := { c' with
      acc := { c.acc with silent := c.acc.silent.put d true, hour := { c.acc.hour with silenceSeen := true } }
      faults := { c.faults with handed := c.faults.handed ++
        [{ cause := .stationSilent, object := .district d, detail1 := some (k.code : Int)
           detail2 := some (e.function.enumCode : Int) }] } }
    t.post (.station { district := d, address := r.station.address, before := r.station.state, after := .silent
                       function := some e.function, failure := some k })

/-! ### Restarts -/

/-- R142, R175: the BUSY reply of a dropped pass-through. -/
def passBusy (p : Option PassSlot) : List Reply :=
  (p.map fun p => { kind := 0x26#8, tag := p.tag, result := .busy, content := .nothing }).toList

/-- R142: a district whose writes the poller has dropped. -/
def DistrictRec.writesDropped (r : DistrictRec) : DistrictRec :=
  { r with station := { r.station with pendingWrite := none, writeInFlight := none } }

/-! ### Invariants -/

/-- R14, R37, R64, R65, R91, R108, R125, R160, R174, R177, R178, R180: the lists and counters are within their sizes. -/
def Ctl.bounded (c : Ctl) : Prop :=
  (c.office.queue.length ≤ 16 ∧ c.office.replies.length ≤ 8 ∧ c.office.outstanding ≤ 8 ∧ c.office.noticeNumber < 256) ∧
  (c.seq.orders.length ≤ 8 ∧ c.seq.ended.length ≤ 4 ∧ 1 ≤ c.seq.nextNumber ∧ c.seq.nextNumber ≤ 999) ∧
  (c.acc.hours.length ≤ 48 ∧ c.acc.days.length ≤ 14) ∧
  (∀ e, c.line = some e → 1 ≤ e.attempt ∧ e.attempt ≤ 3) ∧
  (∀ (h : HolderId) (r : HolderRec), c.holders.get h = some r →
    r.discards.length ≤ 2 ∧ r.disagreeCount ≤ 30 ∧ r.agreeCount ≤ 30) ∧
  ∀ (d : DistrictId) (r : DistrictRec), c.districts.get d = some r →
    r.prog.ring.length = 16 ∧ r.boosterRun ≤ 10 ∧ r.lowCount ≤ 3

/-- Whether the frame being sent is a reply. -/
def Office.sendingReply (o : Office) : Bool :=
  match o.sending with
  | some (.reply _) => true
  | some (.notice _ _ _) => false
  | none => false

/-- R174, R176, R177: every outstanding request has its reply in the reply list or on the line, or is the request of the
store operation in flight, the pass-through, or the RESTART in progress. -/
def Ctl.repliesAccounted (c : Ctl) : Prop :=
  c.powered = true →
    c.office.outstanding = c.office.replies.length + c.office.sendingReply.toNat + c.store.op.isSome.toNat +
      c.pass.isSome.toNat + (c.office.restart.bind Restart.tag).isSome.toNat

/-- R64, R65: the order list and the ended list are within their sizes, no number is held twice, and no holder is engaged
by two active orders. -/
def Sequencer.sound (q : Sequencer) : Prop :=
  q.orders.length ≤ 8 ∧ q.ended.length ≤ 4 ∧
  (q.orders.map Order.number ++ q.ended.map EndRecord.number).Nodup ∧
  ∀ h : HolderId, ∀ o ∈ q.orders, ∀ p ∈ q.orders, o.active = true → p.active = true → o.names h = true →
    p.names h = true → o = p

/-- R58: a set Landed flag has its outlet commanded CLOSED, and a set Top flag its inlet. -/
def Ctl.endsShut (c : Ctl) : Prop :=
  ∀ (h : HolderId) (r : HolderRec), c.holders.get h = some r →
    (r.flags.landed = true → r.outlet.commanded = some .closed) ∧
    (r.flags.top = true → r.inlet.commanded = some .closed)

/-- R46: an outlet in OPENING is commanded OPEN. -/
def Ctl.openingCommanded (c : Ctl) : Prop :=
  ∀ (h : HolderId) (r : HolderRec), c.holders.get h = some r → r.outlet.state = .opening →
    r.outlet.commanded = some .opened

/-- R7, R5: a holder whose removal is in flight has its outlet not commanded OPEN, and no active order names it. -/
def Ctl.removalQuiet (c : Ctl) : Prop :=
  ∀ (op : StoreOp) (h : HolderId), c.store.op = some op → op.work = .removeHolder h →
    c.valveIs h .outlet ValveRec.commandedOpen = false ∧ c.engaged h = false

/-- R104: a programme runs only while an outlet is commanded OPEN. -/
def Ctl.outletHeld (c : Ctl) : Prop := c.anyProgrammeRuns = true → c.anyCommandedOpen .outlet = true

/-- R104 with what keeps it: R46, R7 and the sound order list. -/
def Ctl.supplied (c : Ctl) : Prop :=
  c.outletHeld ∧ c.openingCommanded ∧ c.removalQuiet ∧ c.seq.sound

/-- R160: the numbers of a store run up to the one before the open period's. -/
def numbersTo (numbers : List Nat) (next : Nat) : Prop :=
  numbers.length < next ∧ numbers = List.range' (next - numbers.length) numbers.length

/-- R155, R160: the stored hours: their balance, and each opening total chained from the record before. -/
def hoursSound (hours : List HourRecord) : Prop :=
  (∀ r ∈ hours, r.change = (r.closing : Int) - r.opening ∧
    r.unaccounted = (r.make : Int) - sendOutSum r.sendOuts - r.change) ∧
  ∀ (k : Nat) (r r' : HourRecord), hours[k]? = some r → hours[k + 1]? = some r' → r'.marks.newBase = false →
    r'.opening = r.closing

/-- R155: the stored days: their balance. -/
def daysSound (days : List DayRecord) : Prop :=
  ∀ r ∈ days, r.unaccounted = (r.make : Int) - sendOutSum r.sendOuts - r.change ∧
    (r.marks.newBase = false → r.change = (r.closing : Int) - r.opening)

/-- R154, R158: the open hour chained on the last closed hour, and the open day on the hours closed in it. -/
def Accounts.openSound (a : Accounts) : Prop :=
  (a.hour.newBase = false → ∀ r, a.hours.getLast? = some r → a.hour.opening = some r.closing) ∧
  (a.day.hoursClosed = 0 → a.day.change = 0) ∧
  (a.day.hoursClosed ≠ 0 → (a.hour.newBase = false → a.hour.opening = some a.day.closing) ∧
    ∃ o, a.day.opening = some o ∧ (a.day.marks.newBase = false → a.day.change = (a.day.closing : Int) - o))

/-- R155, R160, R161: the accounts: consecutive numbers, cursors within their stores, balanced and chained records. -/
def Accounts.sound (a : Accounts) : Prop :=
  numbersTo (a.hours.map HourRecord.number) a.hour.number ∧ numbersTo (a.days.map DayRecord.number) a.day.number ∧
  (a.hour.number - a.hours.length ≤ a.hourCursor ∧ a.hourCursor ≤ a.hour.number) ∧
  (a.day.number - a.days.length ≤ a.dayCursor ∧ a.dayCursor ≤ a.day.number) ∧
  hoursSound a.hours ∧ daysSound a.days ∧ a.openSound

/-- R117: every pending set-point lies within the limits of its district, and the limits in force, in the store and in
flight are in order. -/
def Ctl.writesWithinLimits (c : Ctl) : Prop :=
  (∀ (d : DistrictId) (r : DistrictRec), c.districts.get d = some r → r.defn.minimum ≤ r.defn.maximum ∧
    ∀ v, r.station.pendingWrite = some v → r.defn.minimum ≤ v ∧ v ≤ r.defn.maximum) ∧
  (∀ (d : DistrictId) (q : DistrictDef), c.store.districts.get d = .written q → q.minimum ≤ q.maximum) ∧
  ∀ (op : StoreOp) (d : DistrictId) (q : DistrictDef), c.store.op = some op → op.work = .defineDistrict d q →
    q.minimum ≤ q.maximum

/-- R8, R44: two records of a holder differ at most in what the manifold holds: the valves and the connection state. -/
def HolderRec.sameGauge (a b : HolderRec) : Prop := a = { b with conn := a.conn, inlet := a.inlet, outlet := a.outlet }

/-- Every holder but one keeps its record, valves and connection state apart. -/
def Ctl.othersKept (c t : Ctl) (h : HolderId) : Prop :=
  ∀ i : HolderId, i ≠ h → (c.holders.get i = none ∧ t.holders.get i = none) ∨
    ∃ a b, c.holders.get i = some a ∧ t.holders.get i = some b ∧ b.sameGauge a

end Machine

end Sys2Proof
end

