-- ==== Sys2Proof/Certificates/Slice0/Obligations.lean ====
section
/-! DEFINITION. The statements for the provers. `State.withCtl` puts a controller in place of a state's, so an equation
`exec i s = .next (s.withCtl {s.ctl with …})` says the effect of a command and its frame at once. -/

open Sys2Proof Sys2Proof.Machine

/-! ### The step, the queue and reset -/

/-- The block's step: a waiting command runs on the state with the queue's rest. The second clause, an empty queue idles,
is the model's choice (log 3). -/
def Obligations.StepTakesTheFrontCommand : Prop :=
  (∀ (i : Instr) (rest : List Instr) (c : Ctl), step ⟨i :: rest, c⟩ = exec i ⟨rest, c⟩) ∧
  ∀ c : Ctl, step ⟨[], c⟩ = .next ⟨[], c⟩

/-- Chapter 95: a command is whole: it answers a next state and leaves the commands that wait behind it. That no command
stops is the model's choice (log 30), and an event whose cause is absent answers the state it found (log 2). -/
def Obligations.EveryCommandIsWhole : Prop :=
  ∀ (i : Instr) (s : State), ∃ t, exec i s = .next t ∧ t.pending = s.pending

/-- R85, R141, R143, R146, R166, R182, R193: the values the spec gives the blocks right after a power-up, at the reset state.
The erased store, the strap and the limits are the model's choice (log 4), and this says nothing of them; that no stock has
been given to the sequencer is log 12. The reset state meets every invariant stated below. -/
def Obligations.ResetLeavesTheInitialCondition : Prop :=
  let c := State.reset.ctl
  c.clock = { minute := 0, second := 0, isSet := false } ∧
  c.baro = { value := none, lost := false } ∧
  c.makeFlowing = false ∧ c.makeTimer = none ∧ c.relief = false ∧
  c.seq = { orders := [], ended := [], held := false, nextNumber := 1, lastStock := ⟨none, none, none, none⟩ } ∧
  c.line = none ∧ c.pass = none ∧
  (c.acc.hours = [] ∧ c.acc.days = [] ∧ c.acc.hourCursor = 1 ∧ c.acc.dayCursor = 1) ∧
  (c.acc.hour.number = 1 ∧ c.acc.hour.start = 0 ∧ c.acc.hour.duration = 0 ∧ c.acc.hour.clockUnsetSeen = true ∧
    c.acc.hour.newBase = true ∧ c.acc.hour.opening = none ∧ c.acc.hour.make = 0 ∧ c.acc.hour.sendOut = ⟨0, 0, 0⟩) ∧
  (c.acc.day.number = 1 ∧ c.acc.day.start = 0 ∧ c.acc.day.hoursClosed = 0) ∧
  c.acc.baselines = ⟨none, none, none⟩ ∧ c.acc.dayStart = 6 ∧
  (c.office.framer = .hunting ∧ c.office.outstanding = 0 ∧ c.office.replies = [] ∧ c.office.sending = none ∧
    c.office.gate = false ∧ c.office.queue = [] ∧ c.office.dropped = false ∧ c.office.overrun = false ∧
    c.office.noticeNumber = 0) ∧
  (c.faults.first = none ∧ c.faults.further = false) ∧
  c.acc.sound ∧ c.endsShut ∧ c.supplied ∧ c.writesWithinLimits ∧ c.bounded ∧ c.repliesAccounted

/-- POWER_UP (R22, R45, R61, R85, R107, R141, R146, R166, R182, R190, R192): from any state, powered or held in reset, every
block stands in its initial condition over the records found in the store, each restored holder's valves as their limits
read; the start-up's faults are taken in their order into an empty record (logs 9, 38); and the arbiter has started the read
of the lowest restored district. The model's own: a POWER_UP on a controller that runs acts as on one held in reset (log 17),
no stock has been given to the sequencer (log 12), and the arbiter runs within the command, on an idle line (log 25). -/
def Obligations.PowerUpRestoresTheStore : Prop :=
  ∀ (strap : OfficeSpeed) (limits : PerHolder HolderLimits) (broken : PerRecord BrokenOff) (s : State),
    let store := s.ctl.store.found broken
    let defined (d : DistrictId) : Bool := (store.districts.get d).restored.isSome
    let faults := store.startFaults limits
    ∃ t, exec (.powerUp strap limits broken) s = .next t ∧ t.pending = s.pending ∧
      t.ctl.powered = true ∧ t.ctl.clock = { minute := 0, second := 0, isSet := false } ∧
      t.ctl.baro = { value := none, lost := false } ∧ t.ctl.pins = limits ∧
      t.ctl.makeFlowing = false ∧ t.ctl.makeTimer = none ∧ t.ctl.relief = false ∧
      t.ctl.seq = { orders := [], ended := [], held := false, nextNumber := 1, lastStock := ⟨none, none, none, none⟩ } ∧
      t.ctl.acc = { Accounts.reset with dayStart := match store.yard.restored with
        | some y => y.dayStart
        | none => 6 } ∧
      t.ctl.office = Office.reset strap ∧
      t.ctl.store = { store with op := none, lost := store.lostList } ∧
      t.ctl.identity = restoredIdentity store.identity ∧ t.ctl.yard = store.yard.restored ∧
      (∀ h, t.ctl.holders.get h = (store.holders.get h).restored.map fun d => createdHolder d (limits.get h)) ∧
      (∀ h q, t.ctl.holders.get h = some q → q.figures = none ∧ q.flags = ⟨false, false, false, false⟩ ∧
        q.inlet.asCreated (limits.get h).inlet q.defn.inletTime ∧
        q.outlet.asCreated (limits.get h).outlet q.defn.outletTime ∧ q.conn = q.connection) ∧
      (∀ d, (t.ctl.districts.get d).map (fun r => { r with station := { r.station with readDue := 0, lastRead := none } }) =
        (store.districts.get d).restored.map fun q => createdDistrict q 0) ∧
      (t.ctl.line.map fun e => (e.served, e.function, e.attempt, e.period)) =
        (allDistricts.find? defined).map (fun d => (.district d, .readPoints, 1, .quiet)) ∧
      t.ctl.pass = none ∧
      t.ctl.faults = { first := faults.head?.map fun f => { fault := f, minute := 0, clockUnset := true }
                       further := decide (2 ≤ faults.length), handed := [] }

/-! ### The office line -/

/-- R173, R203: a good frame classified by its kind, over the table of kinds and lengths; a frame of an assigned kind is the
request command of that kind. That a frame of no request kind changes nothing even while 8 requests are outstanding is log
22 (DEDUCED), and that a request command is the arrival of its frame is log 1. -/
def Obligations.FramesAreClassified : Prop :=
  ∀ (c : Ctl) (kind tag : Byte) (body : List Byte),
    (kind.toNat = 0 ∨ 0x40 ≤ kind.toNat → c.takeFrame kind tag body = c) ∧
    (c.admits → 1 ≤ kind.toNat → kind.toNat ≤ 0x3F → (∀ e ∈ requestLengths, e.1 ≠ kind.toNat) →
      c.takeFrame kind tag body = c.answered kind tag .unknownKind .nothing) ∧
    (c.admits → ∀ e ∈ requestLengths, e.1 = kind.toNat → (body.length < e.2.1 ∨ e.2.2 < body.length) →
      c.takeFrame kind tag body = c.answered kind tag .badLength .nothing) ∧
    (∀ e ∈ requestLengths, e.1 = kind.toNat → ∃ i : Instr, i.request? = some (kind, tag, body) ∧
      ∀ s : State, s.ctl = c → exec i s = .next (s.withCtl (c.takeFrame kind tag body)))

/-- R174, R181: a request that is not taken changes nothing, but for the overrun mark where 8 are outstanding. The clause
of a controller held in reset is the model's (log 17), and a RESTART that falls together with a reset pulse is queued before
it (log 57), so it is not among these. -/
def Obligations.RequestsNotTaken : Prop :=
  ∀ (i : Instr) (kind tag : Byte) (body : List Byte) (s : State), i.request? = some (kind, tag, body) →
    (s.ctl.powered = false → exec i s = .next s) ∧
    (s.ctl.powered = true → s.ctl.office.restart.isSome = true → exec i s = .next s) ∧
    (s.ctl.powered = true → s.ctl.office.restart = none → 8 ≤ s.ctl.office.outstanding →
      exec i s = .next (s.withCtl { s.ctl with office := { s.ctl.office with overrun := true } }))

/-- R170, R171: RECEIVE_BYTE and GAP_TIMER_EXPIRY: the receive framer, state by state. Only a complete frame with a good
check reaches anything but the framer. -/
def Obligations.TheFramerTakesBytes : Prop :=
  ∀ (s : State) (b : Byte), s.ctl.powered = true →
    let goes (f : Framer) : Host.Outcome State Fault Refusal :=
      .next (s.withCtl { s.ctl with office := { s.ctl.office with framer := f } })
    exec .gapTimerExpiry s = goes .hunting ∧
    exec (.receiveByte b true) s = goes .hunting ∧
    (s.ctl.office.framer = .hunting →
      exec (.receiveByte b false) s = goes (if b = 0xD2#8 then .length else .hunting)) ∧
    (s.ctl.office.framer = .length →
      exec (.receiveByte b false) s =
        goes (if 2 ≤ b.toNat ∧ b.toNat ≤ 242 then .collecting b.toNat [] else .hunting)) ∧
    ∀ (len : Nat) (kept : List Byte), s.ctl.office.framer = .collecting len kept →
      (kept.length + 1 < len + 2 → exec (.receiveByte b false) s = goes (.collecting len (kept ++ [b]))) ∧
      (kept.length + 1 = len + 2 → officeCheckGood len (kept ++ [b]) = false →
        exec (.receiveByte b false) s = goes .hunting) ∧
      (∀ (kind tag : Byte) (rest : List Byte), kept.length + 1 = len + 2 → 2 ≤ len → kept ++ [b] = kind :: tag :: rest →
        officeCheckGood len (kept ++ [b]) = true →
        exec (.receiveByte b false) s =
          .next (s.withCtl ({ s.ctl with office := { s.ctl.office with framer := .hunting } }.takeFrame kind tag
            (rest.take (len - 2)))))

/-- R172, R200, R202: bytes heard from HUNTING one by one: a frame whose two check bytes are the check of its length, kind,
tag and body, high byte first, is taken as its kind, tag and body, so that no bit of it is lost on the way; with any other
two check bytes it changes nothing. That the check over bytes followed by their own check comes to zero is derived from
R202. -/
def Obligations.OfficeFramesAreHeard : Prop :=
  (∀ (c : Ctl) (kind tag : Byte) (body : List Byte) (k1 k2 : Byte), c.office.framer = .hunting → body.length ≤ 240 →
    let covered := u8 (body.length + 2) ++ [kind, tag] ++ body
    let frame := 0xD2#8 :: covered ++ [k1, k2]
    ([k1, k2] = checkBytes covered → frame = officeFrame kind tag body ∧ c.hears frame = c.takeFrame kind tag body) ∧
    ([k1, k2] ≠ checkBytes covered → c.hears frame = c)) ∧
  ∀ bytes : List Byte, checkOf (bytes ++ checkBytes bytes) = 0#16

/-- R174, R177, R178, R180, R181: TRANSMIT_FRAME and OFFICE_FRAME_SENT: replies before notices, a frame to its end, the
notice number and the dropped mark given as a notice begins, no notice once a restart is asked for. That OFFICE_FRAME_SENT
with no frame on the line changes nothing is the model's (log 2). -/
def Obligations.TheTransmitterSends : Prop :=
  ∀ s : State, s.ctl.powered = true →
    let o := s.ctl.office
    let goes (o' : Office) : Host.Outcome State Fault Refusal := .next (s.withCtl { s.ctl with office := o' })
    (o.sending.isSome = true → exec .transmitFrame s = .next s) ∧
    (∀ r rest, o.sending = none → o.replies = r :: rest →
      exec .transmitFrame s = goes { o with sending := some (.reply r), replies := rest }) ∧
    (∀ n rest, o.sending = none → o.replies = [] → o.queue = n :: rest → o.restart = none →
      exec .transmitFrame s =
        goes { o with sending := some (.notice n o.noticeNumber o.dropped), queue := rest, dropped := false
                      noticeNumber := (o.noticeNumber + 1) % 256 }) ∧
    (o.replies = [] → (o.queue = [] ∨ o.restart.isSome = true) → exec .transmitFrame s = .next s) ∧
    (o.sending = none → exec .officeFrameSent s = .next s) ∧
    (∀ r, o.sending = some (.reply r) →
      exec .officeFrameSent s = goes { o with sending := none, outstanding := o.outstanding - 1 }) ∧
    (∀ n k d, o.sending = some (.notice n k d) → exec .officeFrameSent s = goes { o with sending := none })

/-- R178 to R180: a posted notice: discarded by a closed gate, appended with the minute and the clock-unset mark, or
dropped from a queue of 16 with the dropped mark set; and NOTICES ON and NOTICES OFF, which turn the gate. -/
def Obligations.NoticesAreQueued : Prop :=
  (∀ (c : Ctl) (n : NoticeContent),
    (c.office.gate = false → c.post n = c) ∧
    (c.office.gate = true → c.office.queue.length < 16 →
      c.post n = { c with office := { c.office with
        queue := c.office.queue ++ [{ minute := c.clock.minute, clockUnset := !c.clock.isSet, content := n }] } }) ∧
    (c.office.gate = true → 16 ≤ c.office.queue.length →
      c.post n = { c with office := { c.office with dropped := true } })) ∧
  ∀ (s : State) (tag : Byte), s.ctl.admits →
    exec (.noticesOn tag []) s = .next (s.withCtl
      ({ s.ctl with office := { s.ctl.office with gate := true } }.answered 0x33#8 tag .done
        (.gate true s.ctl.office.queue.length))) ∧
    exec (.noticesOff tag []) s = .next (s.withCtl
      ({ s.ctl with office := { s.ctl.office with gate := false } }.answered 0x34#8 tag .done
        (.gate false s.ctl.office.queue.length)))

/-! ### Status requests -/

/-- R21, R83, R94, R121, R138, R164, R187, R196: eight requests answer DONE with the record as it stands, field for field,
and change nothing but the office's own count and reply list. R198: YARD STATUS also clears the dropped mark and the overrun
mark it carries. The barometer's held mark in HOLDER STATUS is log 35, and the marks of RUNNING TOTALS, PARTIAL among them,
are those of a close made now (log 18). -/
def Obligations.StatusRequestsChangeNothing : Prop :=
  ∀ (s : State) (tag b : Byte), s.ctl.admits →
    let c := s.ctl
    let a := c.acc
    let stock (h : HolderId) : Option Nat := ((c.holders.get h).bind HolderRec.figures).map Figures.stock
    let sum (l : List (DistrictId × Nat)) : Int := (l.map Prod.snd).sum
    exec (.identify tag []) s = .next (s.withCtl (c.answered 0x01#8 tag .done (.identify
      { identity := c.identity, settings := c.yard.getD YardDef.default, defaults := c.yard.isNone
        holders := ⟨c.holders.h1.isSome, c.holders.h2.isSome, c.holders.h3.isSome, c.holders.h4.isSome⟩
        districts := ⟨c.districts.d1.isSome, c.districts.d2.isSome, c.districts.d3.isSome⟩
        activity := c.store.op.map fun op => op.work.activity, lost := c.store.lost, speed := c.office.speed }))) ∧
    exec (.orderList tag []) s = .next (s.withCtl (c.answered 0x12#8 tag .done
      (.orders c.seq.held c.seq.nextNumber c.seq.orders c.seq.ended))) ∧
    exec (.readFault tag []) s = .next (s.withCtl (c.answered 0x30#8 tag .done
      (.fault c.faults.first c.faults.further))) ∧
    (∃ u : RunningReply, exec (.runningTotals tag []) s = .next (s.withCtl (c.answered 0x2C#8 tag .done (.running u))) ∧
      (u.hourNumber = a.hour.number ∧ u.dayNumber = a.day.number ∧ u.start = a.hour.start ∧
        u.duration = a.hour.duration ∧ u.make = a.hour.make ∧ u.opening = a.hour.opening ∧
        u.sendOuts = c.definedDistricts.map (fun d => (d, a.hour.sendOut.get d)) ∧
        u.stock = (allHolders.map fun h => (stock h).getD 0).sum ∧
        u.change = (u.stock : Int) - (a.hour.opening.getD u.stock : Nat) ∧
        u.unaccounted = (u.make : Int) - sum u.sendOuts - u.change) ∧
      (u.marks.partialPeriod = true ∧ u.marks.clockUnset = a.hour.clockUnsetSeen ∧
        u.marks.saturated = a.hour.saturated ∧ u.marks.newBase = a.hour.newBase ∧
        (u.marks.suspect = true ↔ a.hour.silenceSeen = true ∨ a.hour.openingDoubtful = true ∨
          ∃ h q, c.holders.get h = some q ∧ (q.disturbed = true ∨ q.figures = none ∨ a.hour.opening = none))) ∧
      (u.dayStart = a.day.start ∧ u.dayDuration = a.day.duration ∧ u.dayClosing = u.stock ∧
        u.dayMake = min (a.day.make + a.hour.make) 4000000000 ∧
        u.daySendOuts = c.definedDistricts.map
          (fun d => (d, min (a.day.sendOut.get d + a.hour.sendOut.get d) 4000000000)) ∧
        u.dayOpening = (if a.day.hoursClosed = 0 then a.hour.opening else a.day.opening) ∧
        u.dayChange = a.day.change + u.change ∧
        u.dayUnaccounted = (u.dayMake : Int) - sum u.daySendOuts - u.dayChange ∧
        u.dayMarks.partialPeriod = true ∧ u.dayMarks.suspect = (a.day.marks.suspect || u.marks.suspect) ∧
        u.dayMarks.clockUnset = (a.day.marks.clockUnset || u.marks.clockUnset) ∧
        u.dayMarks.newBase = (a.day.marks.newBase || u.marks.newBase))) ∧
    (∀ h r, holderOf b.toNat = some h → c.holders.get h = some r →
      exec (.holderStatus tag [b]) s = .next (s.withCtl (c.answered 0x0B#8 tag .done (.holderStatus
        { lifts := r.defn.lifts.length, hmax := (r.defn.lifts.map Lift.travel).sum, vsmax := r.vsmax
          span := r.defn.span, figures := r.figures, crownHeld := r.crown.held, crownLost := r.crown.lost
          pressureHeld := r.pressure.held, pressureLost := r.pressure.lost, temperatureHeld := r.temperature.held
          temperatureLost := r.temperature.lost, barometerHeld := r.reasons.barometerHeld
          barometerLost := c.baro.lost, discards := r.discards.length, reasons := r.reasons, flags := r.flags
          mode := r.defn.mode, lowOffset := r.defn.lowOffset, highOffset := r.defn.highOffset
          disagreeCount := r.disagreeCount, agreeCount := r.agreeCount
          conn := match r.inlet.commanded, r.outlet.commanded with
            | some .opened, some .opened => .floating
            | some .opened, _ => .filling
            | _, some .opened => .drawing
            | _, _ => .isolated
          inlet := r.inlet, outlet := r.outlet, lastSample := r.lastSample })))) ∧
    (∀ d r, districtOf b.toNat = some d → c.districts.get d = some r →
      let p := r.prog
      let x := r.station
      exec (.districtStatus tag [b]) s = .next (s.withCtl (c.answered 0x1A#8 tag .done (.districtStatus
        { district := d, defn := r.defn
          reserved := c.store.op.any fun op => op.work == .clear || op.work.record == some (.district d)
          summary := { state := p.state, current := p.current, last := p.last, repeats := p.repeats
                       repeatStart := p.repeatStart, remaining := p.remaining, setPoint := p.setPoint }
          beforePause := p.beforePause, beforeStarve := p.beforeStarve, starvingTrip := p.starvingTrip
          figures := r.figures, loss := r.loss, lossUsed := max r.defn.lossAllowance r.loss
          slotsUsed := r.slotsUsed, boosterCalled := r.boosterCalled, boosterRun := r.boosterRun
          boosterReason := r.boosterReason, short := r.short, lowCount := r.lowCount
          lowReported := r.lowReported, confirmed := r.confirmed, openingWrite := r.openingWrite
          pendingWrite := x.pendingWrite, station := x.state }))) ∧
      exec (.stationStatus tag [b]) s = .next (s.withCtl (c.answered 0x24#8 tag .done (.stationStatus
        { address := x.address, pollInterval := x.pollInterval, state := x.state, lastGood := x.lastGood
          lastFailure := x.lastFailure, due := decide (x.readDue ≤ c.now)
          seconds := (if x.readDue ≤ c.now then c.now - x.readDue else x.readDue - c.now) / 1000
          slot0 := x.slot0, slot1 := x.slot1, slot2 := x.slot2, slot3 := x.slot3
          pendingWrite := x.pendingWrite, writeInFlight := x.writeInFlight
          line := c.line.map fun e => { function := e.function, served := e.served, attempt := e.attempt }
          pass := match c.pass with
            | none => .empty
            | some y => if y.inFlight then .inFlight y.address else .waiting y.address }))) ∧
      ∀ i : Byte, i.toNat ≤ 15 → ∃ m : StepMarks,
        exec (.readStep tag [b, i]) s = .next (s.withCtl (c.answered 0x1C#8 tag .done
          (.stepEntry (p.ring[i.toNat]?).join m))) ∧
        (m.isCurrent = true ↔ i.toNat = p.current) ∧ (m.isLast = true ↔ p.last = some i.toNat) ∧
        (m.isRepeatStart = true ↔ i.toNat = p.repeatStart) ∧
        (m.committed = true ↔ ∃ last k, p.last = some last ∧ k ≤ (last + 16 - p.current) % 16 ∧
          (p.current + k) % 16 = i.toNat)) ∧
    exec (.yardStatus tag []) s = .next (s.withCtl
      ({ c with office := { c.office with dropped := false, overrun := false } }.answered 0x32#8 tag .done
        (.yardStatus c.yardReply))) ∧
    c.yardReply.dropped = c.office.dropped ∧ c.yardReply.overrun = c.office.overrun ∧ c.yardReply.clock = c.clock ∧
    c.yardReply.further = c.faults.further ∧ c.yardReply.faultCause = (c.faults.first.map fun f => f.fault.cause) ∧
    c.yardReply.pass = match c.pass with
      | none => .empty
      | some y => if y.inFlight then .inFlight else .waiting

/-- R4, R7, R21, R86, R89, R92, R121, R138, R139: a request that names a holder or a district alone: an index out of its
range is refused OUT OF RANGE, and an index not defined NOT DEFINED, and a refused request changes nothing. -/
def Obligations.IndicesAreChecked : Prop :=
  ∀ (s : State) (tag b : Byte), s.ctl.admits →
    let refused (i : Instr) (r : Result) : Prop :=
      ∃ kind, i.request? = some (kind, tag, [b]) ∧ exec i s = .next (s.withCtl (s.ctl.answered kind tag r .nothing))
    (∀ i ∈ [Instr.removeHolder tag [b], .holderStatus tag [b]],
      ((b.toNat = 0 ∨ 5 ≤ b.toNat) → refused i .outOfRange) ∧
      (∀ h, holderOf b.toNat = some h → s.ctl.holders.get h = none → refused i .notDefined)) ∧
    (∀ i ∈ [Instr.removeDistrict tag [b], .districtStatus tag [b], .programmeRun tag [b], .programmePause tag [b],
        .programmeClear tag [b], .stationStatus tag [b], .clearStationMarks tag [b]],
      ((b.toNat = 0 ∨ 4 ≤ b.toNat) → refused i .outOfRange) ∧
      (∀ d, districtOf b.toNat = some d → s.ctl.districts.get d = none → refused i .notDefined))

/-! ### Faults -/

/-- R194, R195: FAULT_TAKEN: an empty record is filled, a filled one is kept and the further-faults mark set, and a FAULT
notice is posted. Which fault is taken is the sender's (log 9), and that a position with no fault changes nothing is log 2.
R197: CLEAR FAULT empties the record and clears the mark, and its reply carries both as they stood. -/
def Obligations.FaultsAreTaken : Prop :=
  (∀ (s : State) (k : Nat), s.ctl.powered = true →
    (s.ctl.faults.handed.length ≤ k → exec (.faultTaken k) s = .next s) ∧
    ∀ f, s.ctl.faults.handed[k]? = some f →
      let handed := s.ctl.faults.handed.eraseIdx k
      (s.ctl.faults.first = none →
        exec (.faultTaken k) s = .next (s.withCtl ({ s.ctl with
          faults := { first := some { fault := f, minute := s.ctl.clock.minute, clockUnset := !s.ctl.clock.isSet }
                      further := s.ctl.faults.further, handed := handed } }.post
            (.fault f true s.ctl.faults.further)))) ∧
      (s.ctl.faults.first.isSome = true →
        exec (.faultTaken k) s = .next (s.withCtl ({ s.ctl with
          faults := { s.ctl.faults with further := true, handed := handed } }.post (.fault f false true))))) ∧
  ∀ (s : State) (tag : Byte), s.ctl.admits →
    exec (.clearFault tag []) s = .next (s.withCtl
      ({ s.ctl with faults := { s.ctl.faults with first := none, further := false } }.answered 0x31#8 tag .done
        (.fault s.ctl.faults.first s.ctl.faults.further)))

/-- R194: once set, the first-fault record changes only by CLEAR FAULT (as a command, or as the frame whose last byte
arrives) or power-up (a long reset pulse begins one, R191). -/
def Obligations.TheFirstFaultIsKept : Prop :=
  ∀ (i : Instr) (s t : State) (f : FirstFault), s.ctl.faults.first = some f → exec i s = .next t →
    t.ctl.faults.first = some f ∨
    (∃ tag body, i = .clearFault tag body) ∨
    (∃ b len kept, i = .receiveByte b false ∧ s.ctl.office.framer = .collecting len (0x31#8 :: kept)) ∨
    i = .resetPulseLong ∨ ∃ strap limits broken, i = .powerUp strap limits broken

/-! ### The Definition Store -/

/-- R4, R7, R33: DEFINE HOLDER, REMOVE HOLDER and SET BANDS begin their store operation where their checks pass, are BUSY
while one is in flight, and are refused where the holder is not at rest or an order names it; operands that do not pass are
refused BAD LENGTH or OUT OF RANGE, a SET BANDS on an index outside 1..4 or on no defined holder among them. -/
def Obligations.HolderDefinitionsAreJudged : Prop :=
  ∀ (s : State) (tag : Byte) (body : List Byte), s.ctl.admits →
    let quiet (h : HolderId) (r : HolderRec) : Prop :=
      r.connection = .isolated ∧ r.inlet.state = .closed ∧ r.outlet.state = .closed ∧
      ∀ o ∈ s.ctl.seq.orders, o.names h = false
    let refused (i : Instr) (kind : Byte) (r : Result) : Prop :=
      exec i s = .next (s.withCtl (s.ctl.answered kind tag r .nothing))
    (∀ e, within 21 59 body.length = true → parseDefineHolder body = .error e →
      (e = .badLength ∨ e = .outOfRange) ∧ refused (.defineHolder tag body) 0x08#8 e) ∧
    (∀ h d, within 21 59 body.length = true → parseDefineHolder body = .ok (h, d) →
      (s.ctl.store.op.isSome = true → refused (.defineHolder tag body) 0x08#8 .busy) ∧
      (s.ctl.store.op = none → (∀ r, s.ctl.holders.get h = some r → quiet h r) →
        exec (.defineHolder tag body) s = .next (s.withCtl (s.ctl.storing 0x08#8 tag (.defineHolder h d)))) ∧
      (∀ r, s.ctl.store.op = none → s.ctl.holders.get h = some r → ¬ quiet h r →
        refused (.defineHolder tag body) 0x08#8 .wrongState)) ∧
    (∀ b h r, body = [b] → holderOf b.toNat = some h → s.ctl.holders.get h = some r →
      (s.ctl.store.op.isSome = true → refused (.removeHolder tag body) 0x09#8 .busy) ∧
      (s.ctl.store.op = none → quiet h r →
        exec (.removeHolder tag body) s = .next (s.withCtl (s.ctl.storing 0x09#8 tag (.removeHolder h)))) ∧
      (s.ctl.store.op = none → ¬ quiet h r → refused (.removeHolder tag body) 0x09#8 .wrongState)) ∧
    (∀ e, within 3 11 body.length = true → parseSetBands body = .error e →
      (e = .badLength ∨ e = .outOfRange) ∧ refused (.setBands tag body) 0x0A#8 e) ∧
    (∀ i set rest, within 3 11 body.length = true → body = i :: set :: rest →
      let offsets : Nat := (if set.toNat % 2 = 1 then 4 else 0) + (if set.toNat / 2 % 2 = 1 then 4 else 0)
      (rest.length ≠ offsets + 1 → refused (.setBands tag body) 0x0A#8 .badLength) ∧
      (rest.length = offsets + 1 →
        ((i.toNat = 0 ∨ 5 ≤ i.toNat) → refused (.setBands tag body) 0x0A#8 .outOfRange) ∧
        (4 ≤ set.toNat ∨ 2 ≤ (rest.getLastD 0#8).toNat → refused (.setBands tag body) 0x0A#8 .outOfRange))) ∧
    (∀ k, within 3 11 body.length = true → parseSetBands body = .ok k →
      (∀ v, (k.low = some v ∨ k.high = some v) → v ≤ 200000000) ∧
      (s.ctl.holders.get k.holder = none → refused (.setBands tag body) 0x0A#8 .notDefined)) ∧
    (∀ k r, within 3 11 body.length = true → parseSetBands body = .ok k → s.ctl.holders.get k.holder = some r →
      (s.ctl.store.op.isSome = true → refused (.setBands tag body) 0x0A#8 .busy) ∧
      (s.ctl.store.op = none →
        exec (.setBands tag body) s = .next (s.withCtl (s.ctl.storing 0x0A#8 tag (.setBands k.holder
          { r.defn with lowOffset := k.low.getD (r.defn.vsmax / 8), highOffset := k.high.getD (r.defn.vsmax / 8)
                        mode := k.mode })))))

/-- R86, R87, R89: DEFINE DISTRICT and REMOVE DISTRICT, likewise, with the station address that no other district may
have; operands that do not pass are refused BAD LENGTH or OUT OF RANGE, and those that pass lie in their ranges, the minimum
below the maximum. -/
def Obligations.DistrictDefinitionsAreJudged : Prop :=
  ∀ (s : State) (tag : Byte) (body : List Byte), s.ctl.admits →
    let refused (i : Instr) (kind : Byte) (r : Result) : Prop :=
      exec i s = .next (s.withCtl (s.ctl.answered kind tag r .nothing))
    let elsewhere (d : DistrictId) (address : Nat) : Prop :=
      ∃ i r, i ≠ d ∧ s.ctl.districts.get i = some r ∧ r.defn.address = address
    (∀ e, within 12 15 body.length = true → parseDefineDistrict body = .error e →
      (e = .badLength ∨ e = .outOfRange) ∧ refused (.defineDistrict tag body) 0x18#8 e) ∧
    (∀ i rest, within 12 15 body.length = true → body = i :: rest →
      let present : Nat := (body.getD 11 0#8).toNat
      let optional : Nat := (if present % 2 = 1 then 1 else 0) + (if present / 2 % 2 = 1 then 2 else 0)
      (body.length ≠ 12 + optional → refused (.defineDistrict tag body) 0x18#8 .badLength) ∧
      (body.length = 12 + optional → (i.toNat = 0 ∨ 4 ≤ i.toNat) → refused (.defineDistrict tag body) 0x18#8 .outOfRange)) ∧
    (∀ d q, parseDefineDistrict body = .ok (d, q) →
      (1 ≤ q.address ∧ q.address ≤ 31) ∧ (50 ≤ q.minimum ∧ q.minimum < q.maximum ∧ q.maximum ≤ 3000) ∧
      q.lossAllowance ≤ 200 ∧ q.boosterLead ≤ 30 ∧ (5 ≤ q.tolerance ∧ q.tolerance ≤ 100) ∧
      q.pulseWeight ∈ [1, 10, 100, 1000] ∧ 10 ≤ q.pollInterval ∧ q.pollInterval ≤ 600) ∧
    (∀ d q, within 12 15 body.length = true → parseDefineDistrict body = .ok (d, q) →
      (elsewhere d q.address → refused (.defineDistrict tag body) 0x18#8 .outOfRange) ∧
      (¬ elsewhere d q.address → s.ctl.store.op.isSome = true → refused (.defineDistrict tag body) 0x18#8 .busy) ∧
      (¬ elsewhere d q.address → s.ctl.store.op = none →
        (∀ r, s.ctl.districts.get d = some r → r.prog.state = .idle ∨ r.prog.state = .paused) →
        exec (.defineDistrict tag body) s = .next (s.withCtl (s.ctl.storing 0x18#8 tag (.defineDistrict d q)))) ∧
      (∀ r, ¬ elsewhere d q.address → s.ctl.store.op = none → s.ctl.districts.get d = some r →
        r.prog.state ≠ .idle → r.prog.state ≠ .paused → refused (.defineDistrict tag body) 0x18#8 .wrongState)) ∧
    (∀ b d r, body = [b] → districtOf b.toNat = some d → s.ctl.districts.get d = some r →
      (s.ctl.store.op.isSome = true → refused (.removeDistrict tag body) 0x19#8 .busy) ∧
      (s.ctl.store.op = none → r.prog.state = .idle →
        exec (.removeDistrict tag body) s = .next (s.withCtl (s.ctl.storing 0x19#8 tag (.removeDistrict d)))) ∧
      (s.ctl.store.op = none → r.prog.state ≠ .idle → refused (.removeDistrict tag body) 0x19#8 .wrongState))

/-- R185, R186, R188: DEFINE YARD, SET WORKS IDENTITY (LOCKED before BUSY) and STORE CLEAR. Operands of DEFINE YARD that do
not pass are refused BAD LENGTH or OUT OF RANGE, and those that pass lie in their ranges. -/
def Obligations.StoreRequestsAreJudged : Prop :=
  ∀ (s : State) (tag : Byte) (body : List Byte), s.ctl.admits →
    let c := s.ctl
    let refused (i : Instr) (kind : Byte) (r : Result) : Prop :=
      exec i s = .next (s.withCtl (c.answered kind tag r .nothing))
    let atRest : Prop :=
      (∀ h r, c.holders.get h = some r →
        r.connection = .isolated ∧ r.inlet.state = .closed ∧ r.outlet.state = .closed) ∧
      (∀ d r, c.districts.get d = some r → r.prog.state = .idle) ∧ c.seq.orders = []
    (∀ e, within 1 9 body.length = true → parseDefineYard body = .error e →
      (e = .badLength ∨ e = .outOfRange) ∧ refused (.defineYard tag body) 0x03#8 e) ∧
    (∀ present rest, within 1 9 body.length = true → body = present :: rest →
      let carried (k width : Nat) : Nat := if present.toNat / 2 ^ k % 2 = 1 then width else 0
      let optional : Nat := carried 0 1 + carried 1 2 + carried 2 2 + carried 3 2 + carried 4 1
      (rest.length ≠ optional → refused (.defineYard tag body) 0x03#8 .badLength) ∧
      (rest.length = optional → 32 ≤ present.toNat → refused (.defineYard tag body) 0x03#8 .outOfRange)) ∧
    (∀ y, parseDefineYard body = .ok y → y.dayStart ≤ 23 ∧ y.pulseWeight ∈ [1, 10, 100, 1000] ∧
      (y.speed = 1200 ∨ y.speed = 2400) ∧ 100 ≤ y.window ∧ y.window ≤ 2000 ∧ y.quiet ≤ 50) ∧
    (∀ y, within 1 9 body.length = true → parseDefineYard body = .ok y →
      (c.store.op.isSome = true → refused (.defineYard tag body) 0x03#8 .busy) ∧
      (c.store.op = none → exec (.defineYard tag body) s = .next (s.withCtl (c.storing 0x03#8 tag (.defineYard y))))) ∧
    (1 ≤ body.length → body.length ≤ 16 →
      ((∃ b ∈ body, b.toNat < 0x20 ∨ 0x7E < b.toNat) → refused (.setWorksIdentity tag body) 0x02#8 .outOfRange) ∧
      ((∀ b ∈ body, 0x20 ≤ b.toNat ∧ b.toNat ≤ 0x7E) →
        (c.identity ≠ .unset → refused (.setWorksIdentity tag body) 0x02#8 .locked) ∧
        (c.identity = .unset → c.store.op.isSome = true → refused (.setWorksIdentity tag body) 0x02#8 .busy) ∧
        (c.identity = .unset → c.store.op = none →
          exec (.setWorksIdentity tag body) s = .next (s.withCtl (c.storing 0x02#8 tag (.setIdentity body)))))) ∧
    (c.store.op.isSome = true → refused (.storeClear tag []) 0x04#8 .busy) ∧
    (c.store.op = none → atRest → exec (.storeClear tag []) s = .next (s.withCtl (c.storing 0x04#8 tag .clear))) ∧
    (c.store.op = none → ¬ atRest → refused (.storeClear tag []) 0x04#8 .wrongState)

/-- R2, R3: every holder definition that DEFINE HOLDER accepts lies within its ranges and meets the four consistency
conditions, defaults included. -/
def Obligations.AcceptedHoldersAreConsistent : Prop :=
  ∀ (body : List Byte) (h : HolderId) (d : HolderDef), parseDefineHolder body = .ok (h, d) →
    (1 ≤ d.lifts.length ∧ d.lifts.length ≤ 4 ∧ d.expected.length = d.lifts.length) ∧
    (∀ l ∈ d.lifts, 1000 ≤ l.area ∧ l.area ≤ 200000 ∧ 1000 ≤ l.travel ∧ l.travel ≤ 15000) ∧
    d.landedVolume ≤ 2000000 ∧ (∀ p ∈ d.expected, 10 ≤ p ∧ p ≤ 400) ∧ d.expected.Pairwise (· ≤ ·) ∧
    (10 ≤ d.inletTime ∧ d.inletTime ≤ 600 ∧ 10 ≤ d.outletTime ∧ d.outletTime ≤ 600) ∧
    (100 ≤ d.landingMargin ∧ d.landingMargin ≤ 2000 ∧ 100 ≤ d.topMargin ∧ d.topMargin ≤ 2000) ∧
    (5 ≤ d.tolerance ∧ d.tolerance ≤ 100) ∧ d.lowOffset ≤ 200000000 ∧ d.highOffset ≤ 200000000 ∧
    ((d.lifts.map Lift.travel).sum ≤ d.span ∧ d.span ≤ 40000) ∧
    d.landingMargin + d.topMargin + 200 < (d.lifts.map Lift.travel).sum

/-- R204: the definitions that DEFINE HOLDER, DEFINE DISTRICT and DEFINE YARD carry, with every optional field present, are
read back as they were laid out. -/
def Obligations.DefinitionBodiesReadBack : Prop :=
  (∀ (h : HolderId) (d : HolderDef), d.fieldsInRange = true → d.consistent = true →
    d.expected.length = d.lifts.length → d.lowOffset ≤ 200000000 → d.highOffset ≤ 200000000 →
    parseDefineHolder (holderBody (holderIndex h) d) = .ok (h, d)) ∧
  (∀ (i : DistrictId) (d : DistrictDef), d.fieldsInRange = true → d.minimum < d.maximum →
    parseDefineDistrict (districtBody (districtIndex i) d) = .ok (i, d)) ∧
  ∀ y : YardDef, y.dayStart ≤ 23 → weightFits y.pulseWeight = true → (y.speed = 1200 ∨ y.speed = 2400) →
    within 100 2000 y.window = true → y.quiet ≤ 50 → parseDefineYard (yardBody y) = .ok y

/-- R34, R184 to R186: STORE_OPERATION_DONE for the works that touch one record alone: a verified write is applied and
answered DONE, a new day-start hour waiting for the next minute event; an operation that did not verify goes into its
rewrite, with nothing else changed; and without an operation that could end nothing changes (log 2). -/
def Obligations.SettingsWritesEnd : Prop :=
  ∀ (s : State) (verified : Bool), s.ctl.powered = true →
    (s.ctl.store.op = none → exec (.storeOperationDone verified) s = .next s) ∧
    ∀ op : StoreOp, s.ctl.store.op = some op →
      let done : Office := { s.ctl.office with
        replies := s.ctl.office.replies ++ [{ kind := op.kind, tag := op.tag, result := .done, content := .nothing }] }
      (op.rollback = true ∨ op.work = .clear → exec (.storeOperationDone verified) s = .next s) ∧
      (op.rollback = false → op.work ≠ .clear →
        exec (.storeOperationDone false) s = .next (s.withCtl { s.ctl with
          store := { s.ctl.store with op := some { op with rollback := true } } })) ∧
      (∀ y, op.rollback = false → op.work = .defineYard y →
        exec (.storeOperationDone true) s = .next (s.withCtl { s.ctl with
          yard := some y, office := done
          store := { s.ctl.store with yard := .written y, lost := s.ctl.store.lost.put .yard false, op := none } })) ∧
      (∀ chars, op.rollback = false → op.work = .setIdentity chars →
        exec (.storeOperationDone true) s = .next (s.withCtl { s.ctl with
          identity := .isSet chars, office := done
          store := { s.ctl.store with
            identity := .written chars, lost := s.ctl.store.lost.put .identity false, op := none } })) ∧
      (∀ h d r, op.rollback = false → op.work = .setBands h d → s.ctl.holders.get h = some r →
        exec (.storeOperationDone true) s = .next (s.withCtl { s.ctl with
          holders := s.ctl.holders.put h (some { r with defn := { r.defn with
            lowOffset := d.lowOffset, highOffset := d.highOffset, mode := d.mode } })
          office := done
          store := { s.ctl.store with
            holders := s.ctl.store.holders.put h (.written d)
            lost := s.ctl.store.lost.put (.holder h) false, op := none } }))

/-- R6, R7, R45, R60, R88, R89, R122, R140, R151, R154, R168, R183: a verified holder or district definition or removal
takes effect: the record is rebuilt, created, replaced or discarded, both periods are closed, and the reply is DONE. A
created holder's valves are as their limits read, a redefined one's are kept with the new travel times; said where no order
names the holder, since one could start and move them. That no arbiter runs here on an idle line is log 25 (DESIGN CHOICE),
and a district whose record is created has its read due at once. -/
def Obligations.DefinitionsTakeEffect : Prop :=
  ∀ (s : State) (op : StoreOp), s.ctl.powered = true → s.ctl.store.op = some op → op.rollback = false →
    let ended (t : State) : Prop :=
      t.pending = s.pending ∧ t.ctl.store.op = none ∧
      t.ctl.office.replies = s.ctl.office.replies ++
        [{ kind := op.kind, tag := op.tag, result := .done, content := .nothing }] ∧
      t.ctl.acc.hour.number = s.ctl.acc.hour.number + 1 ∧ t.ctl.acc.day.number = s.ctl.acc.day.number + 1 ∧
      t.ctl.acc.hour.openedEarly = true ∧ t.ctl.clock = s.ctl.clock ∧ t.ctl.identity = s.ctl.identity ∧
      t.ctl.yard = s.ctl.yard ∧ t.ctl.baro = s.ctl.baro ∧ t.ctl.relief = s.ctl.relief ∧
      t.ctl.faults.first = s.ctl.faults.first
    (∀ h d, op.work = .defineHolder h d →
      ∃ t q, exec (.storeOperationDone true) s = .next t ∧ ended t ∧ t.ctl.acc.hour.newBase = true ∧
        t.ctl.acc.hour.opening = none ∧ t.ctl.store.holders.get h = .written d ∧
        t.ctl.store.lost.get (.holder h) = false ∧ t.ctl.holders.get h = some q ∧ q.defn = d ∧
        q.vsmax = d.landedVolume + (d.lifts.map fun l => l.area * l.travel / 100).sum ∧ q.figures = none ∧
        q.crown.value = none ∧ q.pressure.value = none ∧ q.temperature.value = none ∧ q.discards = [] ∧
        q.flags = Flags.clear ∧ q.reasons = Reasons.empty ∧ q.disagreeCount = 0 ∧ q.agreeCount = 0 ∧
        q.disturbed = false ∧ q.inlet.travelTime = d.inletTime ∧ q.outlet.travelTime = d.outletTime ∧
        q.conn = q.connection ∧
        (s.ctl.holders.get h = none → (∀ o ∈ s.ctl.seq.orders, o.names h = false) →
          let l := s.ctl.pins.get h
          let fault (side : Side) : FaultReport :=
            { cause := .valveDisagree, object := .valve h side, detail1 := some 1, detail2 := some 1 }
          q.inlet.asCreated l.inlet d.inletTime ∧ q.outlet.asCreated l.outlet d.outletTime ∧
          (q.inlet.state = .disagree → fault .inlet ∈ t.ctl.faults.handed) ∧
          (q.outlet.state = .disagree → fault .outlet ∈ t.ctl.faults.handed)) ∧
        (∀ r, s.ctl.holders.get h = some r → (∀ o ∈ s.ctl.seq.orders, o.names h = false) →
          q.inlet = { r.inlet with travelTime := d.inletTime } ∧
          q.outlet = { r.outlet with travelTime := d.outletTime } ∧ t.ctl.faults.handed = s.ctl.faults.handed)) ∧
    (∀ h, op.work = .removeHolder h →
      ∃ t, exec (.storeOperationDone true) s = .next t ∧ ended t ∧ t.ctl.acc.hour.newBase = true ∧
        t.ctl.acc.hour.opening = none ∧ t.ctl.store.holders.get h = .erased ∧
        t.ctl.store.lost.get (.holder h) = false ∧ t.ctl.holders.get h = none ∧
        ∀ o ∈ t.ctl.seq.orders, o.names h = false) ∧
    (∀ i d, op.work = .defineDistrict i d →
      ∃ t q, exec (.storeOperationDone true) s = .next t ∧ ended t ∧ t.ctl.acc.hour.newBase = false ∧
        t.ctl.store.districts.get i = .written d ∧ t.ctl.store.lost.get (.district i) = false ∧
        t.ctl.acc.baselines.get i = none ∧ t.ctl.districts.get i = some q ∧ q.defn = d ∧ q.loss = d.lossAllowance ∧
        q.lowCount = 0 ∧ q.lowReported = false ∧ q.station.address = d.address ∧
        q.station.pollInterval = d.pollInterval ∧ q.station.pendingWrite = none ∧
        (s.ctl.districts.get i = none → q = createdDistrict d s.ctl.now) ∧
        (∀ r, s.ctl.districts.get i = some r → q.prog = r.prog ∧ q.confirmed = r.confirmed ∧
          (r.station.address ≠ d.address → q.station = createdStation d.address d.pollInterval s.ctl.now))) ∧
    (∀ i, op.work = .removeDistrict i →
      ∃ t, exec (.storeOperationDone true) s = .next t ∧ ended t ∧ t.ctl.acc.hour.newBase = false ∧
        t.ctl.store.districts.get i = .erased ∧ t.ctl.store.lost.get (.district i) = false ∧
        t.ctl.districts.get i = none ∧ t.ctl.acc.baselines.get i = none)

/-- R84, R183, R184: STORE_ROLLBACK_DONE: the operation ends STORE FAILED with every definition in force kept; a rewrite
that failed too leaves the record bad and on the lost list. Where no order can start, nothing else changes. That it changes
nothing without a rewrite in progress is the model's (log 2). -/
def Obligations.FailedWritesAreReported : Prop :=
  ∀ (s : State) (verified : Bool) (stored computed : Check) (op : StoreOp), s.ctl.powered = true →
    s.ctl.store.op = some op →
    let reply : Reply := { kind := op.kind, tag := op.tag, result := .storeFailed, content := .nothing }
    (op.rollback = false → exec (.storeRollbackDone verified stored computed) s = .next s) ∧
    (op.rollback = true → ∃ t, exec (.storeRollbackDone verified stored computed) s = .next t ∧
      t.ctl.store.op = none ∧ t.ctl.office.replies = s.ctl.office.replies ++ [reply] ∧
      (verified = true → t.ctl.store = { s.ctl.store with op := none }) ∧
      (∀ r, verified = false → op.work.record = some r →
        t.ctl.store.badChecks r = some (stored, computed) ∧ t.ctl.store.lost.get r = true) ∧
      (∀ h, (t.ctl.holders.get h).map HolderRec.defn = (s.ctl.holders.get h).map HolderRec.defn) ∧
      t.ctl.districts = s.ctl.districts ∧ t.ctl.identity = s.ctl.identity ∧ t.ctl.yard = s.ctl.yard ∧
      t.ctl.acc = s.ctl.acc ∧ t.ctl.clock = s.ctl.clock ∧ t.ctl.faults = s.ctl.faults) ∧
    (op.rollback = true → verified = true → s.ctl.seq.orders = [] →
      exec (.storeRollbackDone verified stored computed) s = .next (s.withCtl { s.ctl with
        store := { s.ctl.store with op := none }
        office := { s.ctl.office with replies := s.ctl.office.replies ++ [reply] } }))

/-- R146, R166, R188, R189: STORE_CLEAR_ERASURES_DONE: where every record read back erased, every definition, order, district
and period is gone and the rest kept; otherwise the clear is answered STORE FAILED with the definitions kept, each record of
a definition in force rewritten or bad, each other record as its erasure left it, and the lost list accordingly. That the
rewrites end within this command is log 15, that the clear keeps the last stocks given is log 12, and that the event changes
nothing without a clear in flight is log 2. -/
def Obligations.StoreClearEnds : Prop :=
  ∀ (s : State) (found : PerRecord ClearReadBack), s.ctl.powered = true →
    ((∀ op, s.ctl.store.op = some op → op.work ≠ .clear) → exec (.storeClearErasuresDone found) s = .next s) ∧
    ∀ op : StoreOp, s.ctl.store.op = some op → op.work = .clear →
      let reply (r : Result) : Reply := { kind := op.kind, tag := op.tag, result := r, content := .nothing }
      ((∀ r ∈ allRecords, (found.get r).erased = true) →
        ∃ t, exec (.storeClearErasuresDone found) s = .next t ∧
          t.ctl.store = { identity := .erased, yard := .erased, holders := ⟨.erased, .erased, .erased, .erased⟩
                          districts := ⟨.erased, .erased, .erased⟩, lost := noRecords, op := none } ∧
          t.ctl.holders = ⟨none, none, none, none⟩ ∧ t.ctl.districts = ⟨none, none, none⟩ ∧ t.ctl.seq.orders = [] ∧
          t.ctl.seq.nextNumber = s.ctl.seq.nextNumber ∧ t.ctl.seq.held = s.ctl.seq.held ∧
          t.ctl.seq.lastStock = s.ctl.seq.lastStock ∧ t.ctl.acc.dayStart = 6 ∧
          t.ctl.identity = .unset ∧ t.ctl.yard = none ∧
          t.ctl.acc.hours = [] ∧ t.ctl.acc.days = [] ∧ t.ctl.acc.hourCursor = 1 ∧ t.ctl.acc.dayCursor = 1 ∧
          t.ctl.acc.hour.number = 1 ∧ t.ctl.acc.hour.start = s.ctl.clock.minute ∧
          t.ctl.acc.hour.openedEarly = true ∧ t.ctl.acc.hour.newBase = true ∧ t.ctl.acc.hour.opening = none ∧
          t.ctl.acc.day.number = 1 ∧ t.ctl.acc.day.start = s.ctl.clock.minute ∧
          t.ctl.clock = s.ctl.clock ∧ t.ctl.baro = s.ctl.baro ∧ t.ctl.makeFlowing = s.ctl.makeFlowing ∧
          t.ctl.relief = s.ctl.relief ∧ t.ctl.pass = s.ctl.pass ∧ t.ctl.faults = s.ctl.faults ∧
          t.ctl.office.gate = s.ctl.office.gate ∧
          t.ctl.office.replies = s.ctl.office.replies ++ [reply .done]) ∧
      ((∃ r ∈ allRecords, (found.get r).erased = false) →
        ∃ t, exec (.storeClearErasuresDone found) s = .next t ∧ t.ctl.store.op = none ∧
          (let inForce : RecordId → Prop := fun r => match r with
            | .identity => ∃ chars, s.ctl.identity = .isSet chars
            | .yard => s.ctl.yard.isSome = true
            | .holder h => (s.ctl.holders.get h).isSome = true
            | .district d => (s.ctl.districts.get d).isSome = true
          let u := t.ctl.store
          (∀ r : RecordId, let f := found.get r
            let good : Prop := (inForce r ∧ f.rewriteVerified = true) ∨ (¬ inForce r ∧ f.erased = true)
            (good → u.lost.get r = false ∧ u.badChecks r = none) ∧
            (¬ good → u.lost.get r = true ∧ u.badChecks r = some (f.stored, f.computed))) ∧
          (∀ chars, s.ctl.identity = .isSet chars → (found.get .identity).rewriteVerified = true →
            u.identity = .written chars) ∧
          (∀ y, s.ctl.yard = some y → (found.get .yard).rewriteVerified = true → u.yard = .written y) ∧
          (∀ h q, s.ctl.holders.get h = some q → (found.get (.holder h)).rewriteVerified = true →
            u.holders.get h = .written q.defn) ∧
          (∀ d q, s.ctl.districts.get d = some q → (found.get (.district d)).rewriteVerified = true →
            u.districts.get d = .written q.defn) ∧
          (¬ inForce .identity → (found.get .identity).erased = true → u.identity = .erased) ∧
          (¬ inForce .yard → (found.get .yard).erased = true → u.yard = .erased) ∧
          (∀ h, ¬ inForce (.holder h) → (found.get (.holder h)).erased = true → u.holders.get h = .erased) ∧
          ∀ d, ¬ inForce (.district d) → (found.get (.district d)).erased = true → u.districts.get d = .erased) ∧
          (∀ h, (t.ctl.holders.get h).map HolderRec.defn = (s.ctl.holders.get h).map HolderRec.defn) ∧
          t.ctl.districts = s.ctl.districts ∧ t.ctl.identity = s.ctl.identity ∧ t.ctl.yard = s.ctl.yard ∧
          t.ctl.acc = s.ctl.acc ∧ t.ctl.clock = s.ctl.clock ∧ t.ctl.faults = s.ctl.faults ∧
          t.ctl.office.replies = s.ctl.office.replies ++ [reply .storeFailed])

/-! ### Restarts -/

/-- R142, R176, R181, R191: RESTART, RESET_PULSE_START, RESET_PULSE_END and RESET_PULSE_LONG: a warm restart is asked for,
the poller's work is dropped with a BUSY reply to its pass-through (log 14), and a long pulse leaves no state but the
store, the strap's speed and the plant's limits (log 17). That the long pulse and the pulse's end are taken without a pulse
begun (log 23), and that a RESTART and a pulse that fall together are queued with the RESTART first (log 57), are the model's
choice. -/
def Obligations.RestartsAreAskedFor : Prop :=
  ∀ (s : State) (tag : Byte), s.ctl.powered = true →
    let asked (r : Restart) (more : Nat) : Ctl := { s.ctl with
      line := none, pass := none
      districts := ⟨s.ctl.districts.d1.map DistrictRec.writesDropped, s.ctl.districts.d2.map DistrictRec.writesDropped,
                    s.ctl.districts.d3.map DistrictRec.writesDropped⟩
      office := { s.ctl.office with
        restart := some r, outstanding := s.ctl.office.outstanding + more
        replies := s.ctl.office.replies ++ passBusy s.ctl.pass } }
    (s.ctl.office.restart = none → s.ctl.office.outstanding < 8 →
      exec (.restart tag []) s = .next (s.withCtl (asked { tag := some tag, pulse := false } 1))) ∧
    exec .resetPulseStart s =
      .next (s.withCtl (asked { tag := s.ctl.office.restart.bind Restart.tag, pulse := true } 0)) ∧
    exec .resetPulseEnd s = .next (s.withCtl { s.ctl with office := { s.ctl.office with
      restart := s.ctl.office.restart.map fun r => { r with pulse := false } } }) ∧
    exec .resetPulseLong s = .next (s.withCtl
      { Ctl.blank s.ctl.store s.ctl.office.speed s.ctl.pins with powered := false })

/-- R23, R62, R85, R107, R142, R167, R181, R182: WARM_RESTART_BEGIN, once the restart is asked for, its pulse has ended, no
store operation is in flight and every reply has left: the lists are emptied, the programmes paused, the periods closed
after the queue was emptied, valves and clock kept, and a RESTART answered DONE. That it changes nothing until then is log
2, that the restart is complete within this command log 27, the BUSY reply of a pass-through taken since the request log 14,
and the last stocks kept log 12. -/
def Obligations.TheWarmRestartIsMade : Prop :=
  ∀ s : State, s.ctl.powered = true →
    let ready (r : Restart) : Prop := r.pulse = false ∧ s.ctl.store.op = none ∧ s.ctl.office.replies = [] ∧
      s.ctl.office.sending = none
    (s.ctl.office.restart = none → exec .warmRestartBegin s = .next s) ∧
    ∀ r : Restart, s.ctl.office.restart = some r →
      (¬ ready r → exec .warmRestartBegin s = .next s) ∧
      (ready r → ∃ t, exec .warmRestartBegin s = .next t ∧ t.pending = s.pending ∧
        t.ctl.office.restart = none ∧ t.ctl.office.framer = .hunting ∧
        t.ctl.office.replies = passBusy s.ctl.pass ++
          (r.tag.map fun g => { kind := 0x05#8, tag := g, result := .done, content := .nothing }).toList ∧
        t.ctl.office.queue.length = (if s.ctl.office.gate then 2 else 0) ∧
        t.ctl.office.gate = s.ctl.office.gate ∧ t.ctl.office.dropped = s.ctl.office.dropped ∧
        t.ctl.office.overrun = s.ctl.office.overrun ∧ t.ctl.office.noticeNumber = s.ctl.office.noticeNumber ∧
        t.ctl.seq = { s.ctl.seq with orders := [], ended := [], held := false } ∧
        (∀ d, (t.ctl.districts.get d).map DistrictRec.prog =
          (s.ctl.districts.get d).map fun q => q.prog.restart) ∧
        (∀ h, t.ctl.holders.get h = (s.ctl.holders.get h).map fun q => { q with disturbed := false }) ∧
        t.ctl.pass = none ∧ t.ctl.acc.hour.number = s.ctl.acc.hour.number + 1 ∧
        t.ctl.acc.day.number = s.ctl.acc.day.number + 1 ∧ t.ctl.acc.hour.newBase = false ∧
        (t.ctl.acc.hours.getLast?.map fun q => (q.number, q.cause)) = some (s.ctl.acc.hour.number, .restart) ∧
        t.ctl.clock = s.ctl.clock ∧ t.ctl.baro = s.ctl.baro ∧ t.ctl.makeFlowing = s.ctl.makeFlowing ∧
        t.ctl.makeTimer = s.ctl.makeTimer ∧ t.ctl.relief = s.ctl.relief ∧ t.ctl.store = s.ctl.store ∧
        t.ctl.identity = s.ctl.identity ∧ t.ctl.yard = s.ctl.yard ∧ t.ctl.faults = s.ctl.faults)

/-! ### The yard clock and the accounts -/

/-- R144 to R146, R149: SET CLOCK sets the clock, closes what the table of R145 says, the gas day judged with the day-start
hour in use, and its reply carries the time set and the numbers of the records closed. -/
def Obligations.SetClockClosesAndSets : Prop :=
  ∀ (s : State) (tag : Byte) (body : List Byte), s.ctl.admits → body.length = 7 →
    (∀ e, parseSetClock body = .error e →
      exec (.setClock tag body) s = .next (s.withCtl (s.ctl.answered 0x06#8 tag e .nothing))) ∧
    ∀ ct : CalendarTime, parseSetClock body = .ok ct →
      let m := ct.yardMinute
      let c := s.ctl
      let gas (k : Nat) : Nat := (k + 1440 - 60 * c.acc.dayStart) / 1440
      let dayToo : Bool := !c.clock.isSet || gas m != gas c.clock.minute
      let hourToo : Bool := dayToo || m / 60 != c.clock.minute / 60
      let reply : ReplyContent := .setClock m ct.second (if hourToo then some c.acc.hour.number else none)
        (if dayToo then some c.acc.day.number else none)
      (hourToo = false → exec (.setClock tag body) s = .next (s.withCtl
        ({ c with clock := { minute := m, second := ct.second, isSet := true } }.answered 0x06#8 tag .done reply))) ∧
      (hourToo = true → ∃ t r, exec (.setClock tag body) s = .next t ∧ t.pending = s.pending ∧
        t.ctl.clock = { minute := m, second := ct.second, isSet := true } ∧
        t.ctl.office.replies = c.office.replies ++ [{ kind := 0x06#8, tag := tag, result := .done, content := reply }] ∧
        t.ctl.acc.hour.number = c.acc.hour.number + 1 ∧
        t.ctl.acc.day.number = c.acc.day.number + dayToo.toNat ∧
        t.ctl.acc.hours.getLast? = some r ∧ r.number = c.acc.hour.number ∧ r.cause = .clockSet ∧
        r.marks.partialPeriod = true ∧ r.duration = c.acc.hour.duration ∧
        t.ctl.acc.hour.start = m ∧ t.ctl.acc.hour.duration = 0 ∧ t.ctl.acc.hour.openedEarly = true ∧
        t.ctl.acc.hour.newBase = false ∧ t.ctl.acc.hour.opening = some r.closing ∧
        (dayToo = true → t.ctl.acc.day.start = m ∧
          (t.ctl.acc.days.getLast?.map fun q => (q.number, q.cause)) = some (c.acc.day.number, .clockSet)) ∧
        t.ctl.seq = c.seq ∧ t.ctl.store = c.store ∧ t.ctl.faults = c.faults ∧ t.ctl.line = c.line ∧
        t.ctl.pass = c.pass ∧ t.ctl.now = c.now)

/-- R143, R144: the calendar of 2000 to 2099: two times whose dates follow one another and whose time of day is the same
lie 1,440 yard minutes apart, and yard minute 0 is 00:00 on 1 January 2000. -/
def Obligations.TheCalendarCountsDays : Prop :=
  ({ year := 2000, month := 1, day := 1, hour := 0, minute := 0, second := 0 : CalendarTime }).yardMinute = 0 ∧
  ∀ t : CalendarTime, t.valid = true →
    (t.day < monthLength t.year t.month → { t with day := t.day + 1 }.yardMinute = t.yardMinute + 1440) ∧
    (t.day = monthLength t.year t.month → t.month < 12 →
      { t with day := 1, month := t.month + 1 }.yardMinute = t.yardMinute + 1440) ∧
    (t.day = 31 → t.month = 12 →
      { t with day := 1, month := 1, year := t.year + 1 }.yardMinute = t.yardMinute + 1440)

/-- R78, R143, R146 to R148, R151, R153 to R159, R165: MINUTE_EVENT: the clock advances; the programmes, the orders
(`ordersMinute`, which FlowOrdersEnd and OrdersFollowTheirValves describe) and the accounts take it, in that order of log 13
(DEDUCED); the durations advance, the day-start hour in force comes into use, the fresh meter counts are taken (as the
statement on counts says), a pending opening total is formed where every defined holder has figures; and the open hour closes
REGULAR at a whole hour, its record with its marks and its balance gathered into the open day, which closes at the day-start
hour, each close with its PERIOD notice. That the second goes to 0 and the minute advances at whatever second the event comes
is log 5 (DESIGN CHOICE). -/
def Obligations.MinutesCloseThePeriods : Prop :=
  ∀ s : State, s.ctl.powered = true →
    let c := s.ctl
    let m := c.clock.minute + 1
    let advanced : Ctl := { c with clock := { minute := m, second := 0, isSet := c.clock.isSet } }
    let before := advanced.programmesMinute
    let p := before.ordersMinute
    let taken := ((c.takeMeter .d1).takeMeter .d2).takeMeter .d3
    let old := c.acc.hour
    let day := c.acc.day
    let figured : Prop := ∀ h q, c.holders.get h = some q → q.figures.isSome = true
    let stock : Nat := (allHolders.map fun h => (((c.holders.get h).bind HolderRec.figures).map Figures.stock).getD 0).sum
    let sum (l : List (DistrictId × Nat)) : Nat := (l.map Prod.snd).sum
    let dayBegins : Prop := m % 1440 = 60 * c.settings.dayStart
    let hourNotice (r : HourRecord) : NoticeContent := .period
      { kind := .hour, number := r.number, start := r.start, duration := r.duration, cause := .regular, marks := r.marks
        make := r.make, sendOutSum := sum r.sendOuts, opening := r.opening, closing := r.closing, change := r.change
        unaccounted := r.unaccounted }
    let dayNotice (r : DayRecord) : NoticeContent := .period
      { kind := .day, number := r.number, start := r.start, duration := r.duration, cause := .regular, marks := r.marks
        make := r.make, sendOutSum := sum r.sendOuts, opening := r.opening, closing := r.closing, change := r.change
        unaccounted := r.unaccounted }
    let gathered (r : HourRecord) (x : OpenDay) : Prop :=
      (x.number = day.number ∧ x.start = day.start ∧ x.duration = day.duration + 1 ∧ x.hoursClosed = day.hoursClosed + 1) ∧
      x.make = min (day.make + r.make) 4000000000 ∧
      (∀ d, ((c.districts.get d).isSome = true →
          x.sendOut.get d = min (day.sendOut.get d + taken.acc.hour.sendOut.get d) 4000000000) ∧
        (c.districts.get d = none → x.sendOut.get d = day.sendOut.get d)) ∧
      x.opening = (if day.hoursClosed = 0 then some r.opening else day.opening) ∧ x.closing = r.closing ∧
      x.change = day.change + r.change ∧
      x.marks.suspect = (day.marks.suspect || r.marks.suspect) ∧
      x.marks.partialPeriod = (day.marks.partialPeriod || r.marks.partialPeriod) ∧
      x.marks.clockUnset = (day.marks.clockUnset || r.marks.clockUnset) ∧
      x.marks.newBase = (day.marks.newBase || r.marks.newBase) ∧
      (x.marks.saturated = true ↔ day.marks.saturated = true ∨ r.marks.saturated = true ∨
        4000000000 < day.make + r.make ∨ ∃ d, (c.districts.get d).isSome = true ∧
          4000000000 < day.sendOut.get d + taken.acc.hour.sendOut.get d)
    ∃ t, exec .minuteEvent s = .next t ∧ t = s.withCtl p.accountsMinute ∧ t.pending = s.pending ∧
      (before.seq = c.seq ∧ before.holders = c.holders ∧ before.acc = c.acc) ∧
      ((∀ o ∈ c.seq.orders, o.phase = none) → p = before) ∧ (c.seq.held = true → p = before) ∧
      t.ctl.seq = p.seq ∧ t.ctl.line = before.line ∧ t.ctl.pass = before.pass ∧
      t.ctl.clock = { minute := m, second := 0, isSet := c.clock.isSet } ∧
      t.ctl.acc.dayStart = c.settings.dayStart ∧ t.ctl.acc.baselines = taken.acc.baselines ∧
      (∀ d, (t.ctl.districts.get d).map (fun q => q.station.slot0) =
        (taken.districts.get d).map (fun q => q.station.slot0)) ∧
      (m % 60 ≠ 0 → t.ctl.acc.hours = c.acc.hours ∧ t.ctl.acc.days = c.acc.days ∧
        t.ctl.acc.day = { day with duration := day.duration + 1 } ∧ t.ctl.holders = p.holders ∧ t.ctl.office = p.office ∧
        ∃ opening, t.ctl.acc.hour = { old with
            duration := old.duration + 1, sendOut := taken.acc.hour.sendOut, saturated := taken.acc.hour.saturated
            opening := opening } ∧
          (∀ n, old.opening = some n → opening = some n) ∧ (old.opening = none → figured → opening = some stock) ∧
          (old.opening = none → ¬ figured → opening = none)) ∧
      (m % 60 = 0 → ∃ (r : HourRecord) (x : OpenDay) (doubt : Bool),
        (r.number = old.number ∧ r.day = day.number ∧ r.start = old.start ∧ r.duration = old.duration + 1 ∧
          r.cause = .regular ∧ r.make = old.make ∧
          r.sendOuts = c.definedDistricts.map (fun d => (d, taken.acc.hour.sendOut.get d)) ∧
          (∀ n, old.opening = some n → r.opening = n) ∧ (old.opening = none → r.opening = stock) ∧
          r.holders = c.definedHolders.map (fun h => (h, ((c.holders.get h).bind HolderRec.figures).map Figures.stock)) ∧
          r.closing = stock ∧ r.change = (r.closing : Int) - r.opening ∧
          r.unaccounted = (r.make : Int) - sum r.sendOuts - r.change) ∧
        (r.marks.partialPeriod = old.openedEarly ∧ r.marks.clockUnset = old.clockUnsetSeen ∧
          r.marks.saturated = taken.acc.hour.saturated ∧ r.marks.newBase = old.newBase ∧
          (r.marks.suspect = true ↔ old.silenceSeen = true ∨ old.openingDoubtful = true ∨
            ∃ h q, c.holders.get h = some q ∧ (q.disturbed = true ∨ q.figures = none))) ∧
        t.ctl.acc.hours = (if c.acc.hours.length < 48 then c.acc.hours else c.acc.hours.drop 1) ++ [r] ∧
        t.ctl.acc.hour = { number := old.number + 1, start := m, duration := 0, openedEarly := false
                           clockUnsetSeen := !c.clock.isSet
                           silenceSeen := c.acc.silent.d1 || c.acc.silent.d2 || c.acc.silent.d3
                           openingDoubtful := doubt, saturated := false, newBase := false, make := 0
                           sendOut := ⟨0, 0, 0⟩, opening := some r.closing } ∧
        (doubt = true ↔ ∃ h q, c.holders.get h = some q ∧ (q.figures = none ∨ q.reasons.any = true)) ∧
        (∀ h, t.ctl.holders.get h = (p.holders.get h).map fun q => { q with disturbed := false }) ∧
        gathered r x ∧
        (¬ dayBegins → t.ctl.acc.days = c.acc.days ∧ t.ctl.acc.day = x ∧
          t.ctl.office = (p.post (hourNotice r)).office) ∧
        (dayBegins →
          let sends := c.definedDistricts.map fun d => (d, x.sendOut.get d)
          let closed : DayRecord :=
            { number := x.number, start := x.start, duration := x.duration, cause := .regular, marks := x.marks
              make := x.make, sendOuts := sends, opening := x.opening.getD 0, closing := x.closing, change := x.change
              unaccounted := (x.make : Int) - sum sends - x.change }
          t.ctl.acc.days = (if c.acc.days.length < 14 then c.acc.days else c.acc.days.drop 1) ++ [closed] ∧
          (t.ctl.acc.day.number = day.number + 1 ∧ t.ctl.acc.day.start = m ∧ t.ctl.acc.day.duration = 0 ∧
            t.ctl.acc.day.hoursClosed = 0 ∧ t.ctl.acc.day.make = 0 ∧ t.ctl.acc.day.sendOut = ⟨0, 0, 0⟩ ∧
            t.ctl.acc.day.opening = none ∧ t.ctl.acc.day.change = 0 ∧
            t.ctl.acc.day.marks = ⟨false, false, false, false, false⟩) ∧
          t.ctl.office = ((p.post (hourNotice r)).post (dayNotice closed)).office)) ∧
      (c.seq.held = true → t.ctl.seq = c.seq) ∧ t.ctl.baro = c.baro ∧ t.ctl.pins = c.pins ∧
      t.ctl.store = c.store ∧ t.ctl.identity = c.identity ∧ t.ctl.yard = c.yard ∧ t.ctl.faults = c.faults ∧
      t.ctl.makeFlowing = c.makeFlowing ∧ t.ctl.relief = c.relief ∧ t.ctl.office.replies = c.office.replies

/-- R52, R146, R150, R152: MAKE_PULSE and MAKE_FLOWING_EXPIRY: the make of the open hour grows by the weight in force and is
kept at 4,000,000,000; make flowing and its 60 s timer. YARD_CLOCK_SECOND (R47, R52, R143): the second advances, and the
running timeouts count down, nothing else. The expiry comes where the timer's count is zero and makes make flowing false; a
timer that a pulse has started anew is not at zero, so with the pulse taken first the expiry does not occur (R52). That the
second waits at 59 for its MINUTE_EVENT, that the time base steps to the next whole second, that the timer is counted in the
same whole seconds, and that the expiry changes nothing where no timer runs, is the model's choice (logs 5, 6, 7, 2). -/
def Obligations.PulsesAndSecondsAreCounted : Prop :=
  ∀ s : State, s.ctl.powered = true →
    let o := s.ctl.acc.hour
    let weight := match s.ctl.yard with
      | some y => y.pulseWeight
      | none => 100
    exec .makePulse s = .next (s.withCtl { s.ctl with
      makeFlowing := true, makeTimer := some 60
      acc := { s.ctl.acc with hour := { o with
        make := min (o.make + weight) 4000000000
        saturated := o.saturated || decide (4000000000 < o.make + weight) } } }) ∧
    (s.ctl.makeTimer = some 0 →
      exec .makeFlowingExpiry s = .next (s.withCtl { s.ctl with makeFlowing := false, makeTimer := none })) ∧
    (s.ctl.makeTimer ≠ some 0 → exec .makeFlowingExpiry s = .next s) ∧
    let down (v : ValveRec) : ValveRec := { v with timeout := v.timeout.map fun n => n - 1 }
    let tick (r : HolderRec) : HolderRec := { r with inlet := down r.inlet, outlet := down r.outlet }
    exec .yardClockSecond s = .next (s.withCtl { s.ctl with
      clock := { s.ctl.clock with second := if s.ctl.clock.second < 59 then s.ctl.clock.second + 1 else 59 }
      now := (s.ctl.now / 1000 + 1) * 1000
      makeTimer := s.ctl.makeTimer.map fun n => n - 1
      holders := ⟨s.ctl.holders.h1.map tick, s.ctl.holders.h2.map tick, s.ctl.holders.h3.map tick,
                  s.ctl.holders.h4.map tick⟩ })

/-- R133, R151, R152: the taking of slot 0: the count becomes the baseline, and its advance, of the counts that bring the
baseline to the count mod 2^24, goes into the send-out at the meter's weight; a stale slot is not taken. -/
def Obligations.CountsAreTaken : Prop :=
  ∀ (c : Ctl) (d : DistrictId) (r : DistrictRec), c.districts.get d = some r →
    (r.station.slot0.fresh = false → c.takeMeter d = c) ∧
    (r.station.slot0.value = none → c.takeMeter d = c) ∧
    ∀ v, r.station.slot0.fresh = true → r.station.slot0.value = some v → v < 16777216 →
      let t := c.takeMeter d
      t.acc.baselines.get d = some v ∧
      (t.districts.get d).map (fun q => q.station.slot0) = some { r.station.slot0 with fresh := false } ∧
      (c.acc.baselines.get d = none → t.acc.hour = c.acc.hour) ∧
      (∀ i, i ≠ d → t.acc.hour.sendOut.get i = c.acc.hour.sendOut.get i ∧
        t.acc.baselines.get i = c.acc.baselines.get i) ∧
      (∀ b, c.acc.baselines.get d = some b → b < 16777216 → ∃ adv, adv < 16777216 ∧ (b + adv) % 16777216 = v ∧
        t.acc.hour.sendOut.get d = min (c.acc.hour.sendOut.get d + adv * r.defn.pulseWeight) 4000000000 ∧
        t.acc.hour.saturated = (c.acc.hour.saturated ||
          decide (4000000000 < c.acc.hour.sendOut.get d + adv * r.defn.pulseWeight)))

/-- R161, R162: READ HOUR RECORD and READ DAY RECORD over sound accounts: the record the cursor names, and the cursor
advances by one; EMPTY with the write position's number where the cursor stands there. R163: REWIND HOURS moves the cursor
to the oldest stored record of the open day, or else to the oldest of all, and REWIND DAYS to the oldest. -/
def Obligations.RecordsAreRead : Prop :=
  ∀ (s : State) (tag : Byte), s.ctl.admits → s.ctl.acc.sound →
    let a := s.ctl.acc
    (∀ r ∈ a.hours, r.number = a.hourCursor →
      exec (.readHourRecord tag []) s = .next (s.withCtl
        ({ s.ctl with acc := { a with hourCursor := a.hourCursor + 1 } }.answered 0x28#8 tag .done (.hourRecord r)))) ∧
    (a.hourCursor = a.hour.number → exec (.readHourRecord tag []) s = .next (s.withCtl
      (s.ctl.answered 0x28#8 tag .empty (.writePosition a.hour.number)))) ∧
    (∀ r ∈ a.days, r.number = a.dayCursor →
      exec (.readDayRecord tag []) s = .next (s.withCtl
        ({ s.ctl with acc := { a with dayCursor := a.dayCursor + 1 } }.answered 0x29#8 tag .done (.dayRecord r)))) ∧
    (a.dayCursor = a.day.number → exec (.readDayRecord tag []) s = .next (s.withCtl
      (s.ctl.answered 0x29#8 tag .empty (.writePosition a.day.number)))) ∧
    let hoursTo (n : Nat) : Prop := exec (.rewindHours tag []) s = .next (s.withCtl
      ({ s.ctl with acc := { a with hourCursor := n } }.answered 0x2A#8 tag .done (.cursor n)))
    (∀ r ∈ a.hours, r.day = a.day.number → (∀ q ∈ a.hours, q.day = a.day.number → r.number ≤ q.number) →
      hoursTo r.number) ∧
    ((∀ q ∈ a.hours, q.day ≠ a.day.number) → hoursTo (a.hour.number - a.hours.length)) ∧
    exec (.rewindDays tag []) s = .next (s.withCtl
      ({ s.ctl with acc := { a with dayCursor := a.day.number - a.days.length } }.answered 0x2B#8 tag .done
        (.cursor (a.day.number - a.days.length))))

/-- R155, R158, R160, R161: sound accounts stay sound: store numbers run on without a gap, each cursor names a stored record
or the write position, every stored record balances, and each opening total without NEW-BASE is the closing total before. -/
def Obligations.AccountsStaySound : Prop :=
  ∀ s t : State, s.ctl.acc.sound → step s = .next t → t.ctl.acc.sound

/-! ### The Stock Unit -/

/-- R10, R12: BAROMETER_SAMPLE: a code of 100 or more is converted, a lower one is LOST, and only the first of a spell
raises GAUGE LOST. And every input's conversion lies within the range of the input. -/
def Obligations.TheBarometerIsSampled : Prop :=
  (∀ (s : State) (code : Code), s.ctl.powered = true →
    let c := s.ctl
    (100 ≤ code.toNat → exec (.barometerSample code) s = .next (s.withCtl { c with
      baro := { value := some (9000 + (code.toNat * 2000 + 2047) / 4095), lost := false } })) ∧
    (code.toNat < 100 → c.baro.lost = true → exec (.barometerSample code) s = .next s) ∧
    (code.toNat < 100 → c.baro.lost = false → exec (.barometerSample code) s = .next (s.withCtl { c with
      baro := { c.baro with lost := true }
      faults := { c.faults with handed := c.faults.handed ++
        [{ cause := .gaugeLost, object := .barometer, detail1 := some code.toNat
           detail2 := c.baro.value.map fun b => (b : Int) }] } }))) ∧
  ∀ (lo span : Nat) (code : Code),
    (code.toNat < 100 → convert lo span code = none) ∧
    (100 ≤ code.toNat → ∃ v, convert lo span code = some v ∧ v = lo + (code.toNat * span + 2047) / 4095 ∧
      lo ≤ v ∧ v ≤ lo + span)

/-- R9 to R11, R13, R20, R24, R40, R41: HOLDER_SAMPLE. A reading that converts replaces its input's value and ends its LOST
spell; a LOST one keeps the last value (held only where there is one: log 10), and the first of a spell alone raises GAUGE
LOST (the order in which faults wait is the model's, log 9). The reasons of the sample are set as a whole, and any of them
sets the disturbed mark. Without its figures the holder
keeps all else; with them its record is that of stage 5, the valves and the connection state apart (a trip and the orders
may move those), and no other holder's figures, account, definition or clock is touched. An undefined holder is not
sampled. -/
def Obligations.HoldersAreSampled : Prop :=
  ∀ (s : State) (h : HolderId) (k1 k2 k3 : Code), s.ctl.powered = true →
    let c := s.ctl
    (c.holders.get h = none → exec (.holderSample h k1 k2 k3) s = .next s) ∧
    ∀ r, c.holders.get h = some r →
      let crown := crownTake r.crown r.discards (convert 0 r.defn.span k1)
      let pressure : Input Nat := match convert 0 600 k2 with
        | some p => { value := some p, lost := false, held := false }
        | none => { value := r.pressure.value, lost := true, held := r.pressure.value.isSome }
      let temperature : Input Int := match convert 0 550 k3 with
        | some n => { value := some ((n : Int) - 100), lost := false, held := false }
        | none => { value := r.temperature.value, lost := true, held := r.temperature.value.isSome }
      let gaugeHeld : Bool := crown.input.held || pressure.held || temperature.held
      let r0 : HolderRec := { r with
        crown := crown.input, discards := crown.discards, pressure := pressure, temperature := temperature
        lastSample := some c.clock.minute }
      let lost (input : GaugeInput) (code : Code) (already : Bool) (value : Option Int) : List FaultReport :=
        if code.toNat < 100 ∧ already = false then
          [{ cause := .gaugeLost, object := .gauge h input, detail1 := some (code.toNat : Int), detail2 := value }]
        else []
      let jumped : List FaultReport := match crown.jump with
        | some (discarded, held) => [{ cause := .gaugeJump, object := .holder h, detail1 := some (discarded : Int)
                                       detail2 := some (held : Int) }]
        | none => []
      let faults := c.faults.handed ++ lost .crown k1 r.crown.lost (r.crown.value.map fun n => (n : Int)) ++
        lost .pressure k2 r.pressure.lost (r.pressure.value.map fun n => (n : Int)) ++
        lost .temperature k3 r.temperature.lost r.temperature.value ++ jumped
      let without : Prop := exec (.holderSample h k1 k2 k3) s = .next (s.withCtl { c with
        holders := c.holders.put h (some { r0 with
          reasons := { gaugeHeld := gaugeHeld, barometerHeld := c.baro.lost
                       pressureDisagree := r.reasons.pressureDisagree }
          disturbed := r.disturbed || gaugeHeld || c.baro.lost || r.reasons.pressureDisagree })
        faults := { c.faults with handed := faults } })
      (crown.input.value = none ∨ pressure.value = none ∨ temperature.value = none ∨ c.baro.value = none → without) ∧
      (∀ hh p n b, crown.input.value = some hh → pressure.value = some p → temperature.value = some n →
        c.baro.value = some b →
        let f := figuresOf r.defn r.vsmax hh p n b
        ∃ t q more, exec (.holderSample h k1 k2 k3) s = .next t ∧ t.pending = s.pending ∧
        t.ctl.holders.get h = some q ∧ q.sameGauge (r0.stage5 f c.baro.lost).1 ∧ q.figures = some f ∧
        q.flags = flagsAfter r.defn r.conn f r.flags ∧ q.crown = crown.input ∧ q.discards = crown.discards ∧
        q.pressure = pressure ∧ q.temperature = temperature ∧ q.lastSample = some c.clock.minute ∧
        q.reasons.gaugeHeld = gaugeHeld ∧ q.reasons.barometerHeld = c.baro.lost ∧
        q.disturbed = (r.disturbed || gaugeHeld || c.baro.lost || q.reasons.pressureDisagree) ∧
        t.ctl.faults.handed = faults ++ more ∧ (∀ x ∈ more, x.cause ≠ .gaugeLost ∧ x.cause ≠ .gaugeJump) ∧
        c.othersKept t.ctl h ∧
        t.ctl.clock = c.clock ∧ t.ctl.baro = c.baro ∧ t.ctl.acc = c.acc ∧ t.ctl.store = c.store ∧
        t.ctl.identity = c.identity ∧ t.ctl.yard = c.yard ∧ t.ctl.pins = c.pins ∧ t.ctl.line = c.line ∧
        t.ctl.pass = c.pass ∧ t.ctl.makeFlowing = c.makeFlowing ∧ t.ctl.faults.first = c.faults.first ∧
        t.ctl.office.samePosts c.office)

/-- R13, R14: the crown jump check: what is accepted, what is discarded, when the run begins with its fault, and that a
height more than 200 mm away is only ever taken after two discarded ones within 200 mm of it and of each other. -/
def Obligations.CrownJumpsAreHeld : Prop :=
  ∀ (i : Input Nat) (run : List Nat) (h : Nat), run.length ≤ 2 →
    let t := crownTake i run (some h)
    (i.lost = true ∨ i.value = none → t = ⟨⟨some h, false, false⟩, [], none⟩) ∧
    (∀ last, i.lost = false → i.value = some last →
      let near : Prop := h ≤ last + 200 ∧ last ≤ h + 200
      (near → t = ⟨⟨some h, false, false⟩, [], none⟩) ∧
      (¬ near →
        (t.jump = if run = [] then some (h, last) else none) ∧ t.discards.length ≤ 2 ∧ t.input.lost = false ∧
        ((t.input.value = some h ∧ t.input.held = false ∧ t.discards = [] ∧ run.length = 2 ∧
            (∀ a ∈ run, a ≤ h + 200 ∧ h ≤ a + 200) ∧ ∀ a ∈ run, ∀ b ∈ run, a ≤ b + 200) ∨
          (t.input.value = some last ∧ t.input.held = true ∧ t.discards.getLast? = some h ∧
            ¬ (run.length = 2 ∧ (∀ a ∈ run, a ≤ h + 200 ∧ h ≤ a + 200) ∧ ∀ a ∈ run, ∀ b ∈ run, a ≤ b + 200) ∧
            (run.length < 2 → t.discards = run ++ [h]) ∧
            (run.length = 2 → t.discards = run.drop 1 ++ [h]))))) ∧
    (crownTake i run none).discards = [] ∧ (crownTake i run none).input.value = i.value ∧
    (crownTake i run none).input.lost = true

/-- R15, R16, R19: the lifts afloat are the lifts whose offset lies below the crown; the swept volume, each term floored on
its own, is V0 at the landing and V_smax from H_max on, and rises without a jump between; stock and capacity come by one
factor, the stock is at most the capacity, and the free room is their difference. -/
def Obligations.TheStockRisesWithTheCrown : Prop :=
  (∀ (d : HolderDef) (h : Nat), d.fieldsInRange = true → d.hmax ≤ 40000 →
    let offset (k : Nat) : Nat := ((d.lifts.take k).map Lift.travel).sum
    let term (k : Nat) : Nat := match d.lifts[k]? with
      | some l => l.area * min (h - offset k) l.travel / 100
      | none => 0
    d.afloat h = ((List.range d.lifts.length).filter fun k => decide (offset k < h)).length ∧
    d.afloat 0 = 0 ∧ d.afloat h ≤ d.lifts.length ∧ (d.hmax ≤ h → d.afloat h = d.lifts.length) ∧
    d.swept h = d.landedVolume + ((List.range d.lifts.length).map term).sum ∧
    d.swept 0 = d.landedVolume ∧ (d.hmax ≤ h → d.swept h = d.vsmax) ∧
    d.swept h ≤ d.swept (h + 1) ∧ d.swept (h + 1) ≤ d.swept h + 2001 ∧
    d.vsmax = d.landedVolume + (d.lifts.map fun l => l.area * l.travel / 100).sum ∧ d.vsmax ≤ 82000000) ∧
  ∀ (d : HolderDef) (h pg : Nat) (t : Int) (baro : Nat),
    let f := figuresOf d d.vsmax h pg t baro
    f.stock = (2 * (d.swept h * f.factor) + 65536) / 131072 ∧
    f.capacity = (2 * (d.vsmax * f.factor) + 65536) / 131072 ∧
    f.factor = factorOf baro pg t ∧ d.swept h ≤ d.vsmax ∧ f.stock ≤ f.capacity ∧ f.freeRoom + f.stock = f.capacity

/-- R17, R18: the vapour pressure interpolated between the table's entries and rounded; the correction factor, the exact
quotient rounded to the nearest integer, and its bounds over the ranges of R10. -/
def Obligations.CorrectionFactorsAreBounded : Prop :=
  let table : List Nat := [29, 42, 61, 87, 123, 170, 234, 317, 424, 562, 738, 958]
  (∀ k : Nat, k < 11 → ∀ r : Nat, r < 50 → ∃ lower upper, table[k]? = some lower ∧ table[k + 1]? = some upper ∧
    vapour ((k : Int) * 50 + (r : Int) - 100) = (2 * (50 * lower + (upper - lower) * r) + 50) / 100) ∧
  vapour 450 = 958 ∧
  ∀ (baro pg : Nat) (t : Int), 9000 ≤ baro → baro ≤ 11000 → pg ≤ 600 → -100 ≤ t → t ≤ 450 →
    let dry : Int := baro + pg - vapour t
    let abs : Int := 27315 + 10 * t
    let f := factorOf baro pg t
    (2 * (dry * 28815 * 65536) - 9963 * abs < 2 * (9963 * abs) * f ∧
      2 * (9963 * abs) * f ≤ 2 * (dry * 28815 * 65536) + 9963 * abs) ∧
    47000 ≤ f ∧ f ≤ 84000 ∧ factorOf 9000 0 450 = 47912 ∧ factorOf 11000 600 (-100) = 83344

/-- R25, R26: the Landed and Top flags after a sample, row by row of their tables; never both under R3; and a trip for each
flag newly set, and no other. R29 to R31: the band flags after a sample, in FOLLOW and in LATCH mode. -/
def Obligations.FlagsFollowTheSample : Prop :=
  ∀ (d : HolderDef) (conn : ConnState) (f : Figures) (b : Flags),
    let a := flagsAfter d conn f b
    let low : Prop := f.stock ≤ d.lowOffset
    let high : Prop := f.freeRoom ≤ d.highOffset
    (f.h ≤ d.landingMargin → a.landed = true) ∧
    (d.landingMargin < f.h → f.h ≤ d.landingMargin + 100 → a.landed = b.landed) ∧
    (d.landingMargin + 100 < f.h → a.landed = false) ∧
    (d.hmax ≤ f.h + d.topMargin → a.top = true) ∧
    (f.h + d.topMargin < d.hmax → d.hmax ≤ f.h + d.topMargin + 100 → a.top = b.top) ∧
    (f.h + d.topMargin + 100 < d.hmax → a.top = false) ∧
    (d.landingMargin + d.topMargin + 200 < d.hmax → ¬ (a.landed = true ∧ a.top = true)) ∧
    (TripKind.landing ∈ tripsOf b a ↔ b.landed = false ∧ a.landed = true) ∧
    (TripKind.top ∈ tripsOf b a ↔ b.top = false ∧ a.top = true) ∧
    (low → a.landingNear = true) ∧ (high → a.topNear = true) ∧
    (d.mode = .follow → (¬ low → a.landingNear = false) ∧ (¬ high → a.topNear = false)) ∧
    (d.mode = .latch → ¬ low →
      (conn = .filling ∨ conn = .floating → a.landingNear = false) ∧
      (conn = .isolated ∨ conn = .drawing → a.landingNear = b.landingNear)) ∧
    (d.mode = .latch → ¬ high →
      (conn = .drawing ∨ conn = .floating → a.topNear = false) ∧
      (conn = .isolated ∨ conn = .filling → a.topNear = b.topNear))

/-- R36 to R39: when a sample is checked and when it disagrees; a checked sample that disagrees sets the agree count to 0 and
the reverse; thirty disagreeing checked samples gain PRESSURE DISAGREE, thirty agreeing ones remove it, unchecked samples
between them change nothing, and the fault is raised at the gain alone; and a complete sample is one such sample. -/
def Obligations.PressureDisagreeTakesThirty : Prop :=
  (∀ (d : HolderDef) (f : Figures) (crownAccepted pressureAccepted : Bool),
    let offset (k : Nat) : Nat := ((d.lifts.take k).map Lift.travel).sum
    (checkedSample d f crownAccepted pressureAccepted = true ↔
      1 ≤ f.lifts ∧ d.landingMargin < f.h ∧
      (∀ k, 1 ≤ k → k < d.lifts.length → f.h + 150 < offset k ∨ offset k + 150 < f.h) ∧
      pressureAccepted = true ∧ crownAccepted = true) ∧
    ∀ p, 1 ≤ f.lifts → d.expected[f.lifts - 1]? = some p →
      (disagrees d f = true ↔ f.pg + d.tolerance < p ∨ p + d.tolerance < f.pg)) ∧
  (∀ k : CheckResult,
    (k.after (true, true)).agreeCount = 0 ∧ (k.after (true, true)).disagreeCount = min (k.disagreeCount + 1) 30 ∧
    (k.after (true, false)).disagreeCount = 0 ∧ (k.after (true, false)).agreeCount = min (k.agreeCount + 1) 30 ∧
    ∀ x, k.after (false, x) = { k with gained := false }) ∧
  (∀ (r : HolderRec) (f : Figures) (baroLost : Bool),
    let k : CheckResult := ⟨r.disagreeCount, r.agreeCount, r.reasons.pressureDisagree, false⟩
    let e := k.after (checkedSample r.defn f (!r.crown.held) (!r.pressure.held), disagrees r.defn f)
    let q := r.stage5 f baroLost
    q.1.disagreeCount = e.disagreeCount ∧ q.1.agreeCount = e.agreeCount ∧ q.1.reasons.pressureDisagree = e.reason ∧
      q.2 = e.gained) ∧
  ∀ (k : CheckResult) (samples : List (Bool × Bool)),
    let checked := (samples.filter Prod.fst).length
    let e := k.run samples
    ((∀ p ∈ samples, p.1 = true → p.2 = true) → k.disagreeCount = 0 → k.reason = false →
      e.disagreeCount = min checked 30 ∧ e.reason = decide (30 ≤ checked) ∧
      (samples ≠ [] → e.gained = (decide (checked = 30) && (samples.getLast?.map Prod.fst == some true)))) ∧
    ((∀ p ∈ samples, p.1 = true → p.2 = false) → k.agreeCount = 0 → k.reason = true →
      e.agreeCount = min checked 30 ∧ e.reason = decide (checked < 30) ∧ (samples ≠ [] → e.gained = false))

/-! ### Valves and the manifold -/

/-- R46, R47, R51, R53, R54, R59: a valve command of an order: refused by a set flag, by the last inlet with make flowing
or by the last outlet with a programme running; otherwise taken by the valve, with the travel timeout of
floor(3 × travel time / 2) s and a VALVE notice where its state changes. -/
def Obligations.OrderCommandsAreJudged : Prop :=
  ∀ (c : Ctl) (n : Nat) (h : HolderId) (side : Side) (p : Position),
    (c.holders.get h = none → c.orderCommand n h side p = (c, .notDefined)) ∧
    ∀ r, c.holders.get h = some r →
      let v := r.valve side
      let last : Prop := v.commanded = some .opened ∧
        ∀ i q, i ≠ h → c.holders.get i = some q → (q.valve side).commanded ≠ some .opened
      let landed : Prop := p = .opened ∧ side = .outlet ∧ r.flags.landed = true
      let top : Prop := p = .opened ∧ side = .inlet ∧ r.flags.top = true
      let lastInlet : Prop := p = .closed ∧ side = .inlet ∧ last ∧ c.makeFlowing = true
      let lastOutlet : Prop := p = .closed ∧ side = .outlet ∧ last ∧
        ∃ d q, c.districts.get d = some q ∧ (q.prog.state = .running ∨ q.prog.state = .endHold)
      (landed → c.orderCommand n h side p = (c, .interlock .landed)) ∧
      (top → c.orderCommand n h side p = (c, .interlock .top)) ∧
      (lastInlet → c.orderCommand n h side p = (c, .interlock .lastInlet)) ∧
      (lastOutlet → c.orderCommand n h side p = (c, .interlock .lastOutlet)) ∧
      (¬ landed → ¬ top → ¬ lastInlet → ¬ lastOutlet →
        let going : ValveState := if p = .opened then .opening else .closing
        let there : ValveState := if p = .opened then .opened else .closed
        let back : ValveState := if p = .opened then .closing else .opening
        let set : ValveRec := { v with commanded := some p, source := .order n }
        let q (x : ValveRec) : HolderRec := { r.putValve side x with conn := (r.putValve side x).connection }
        let c1 (x : ValveRec) : Ctl := { c with holders := c.holders.put h (some (q x)) }
        let travel : ValveRec := { set with
          state := going, timeout := some (3 * v.travelTime / 2), timeoutLength := 3 * v.travelTime / 2 }
        (v.state = going ∨ v.state = there → c.orderCommand n h side p = (c1 set, .accepted)) ∧
        (v.state ≠ going → v.state ≠ there → c.orderCommand n h side p = ((c1 travel).post (.valve
          { holder := h, side := side, event := if v.state = back then .reversed else .moving, state := going
            commanded := some p, source := .order n, limits := v.limits, conn := (q travel).connection
            relief := c.relief, reliefChanged := false }), .accepted)))

/-- R48 to R51, R57, R59, R105: LIMIT_EVENT and VALVE_TRAVEL_TIMEOUT: the limit switch reads anew, and a valve that travels,
is stuck or is at rest comes to the state its limits show, or stays; its fault, make relief and the starved programmes
follow, the orders are told (what they do is the statement OrdersFollowTheirValves; where no ACTIVE order names the holder,
nothing), and the VALVE notice is posted last (log 11). A holder that is not defined has only its switch read. R51 does not
give the order of the two that are told: that the programmes are restored before the orders hear of an arrival is log 24
(DEDUCED). The travel timeout makes its event at its counted zero (R47, R49): before zero, as after a reversal has started it
anew, nothing happens. The model's own: a controller held in reset (log 17), an event that repeats a reading (log 39), the
length last started as the timeout's detail (log 8), and no effect where the timeout is not at zero or the valve does not
travel (log 2). -/
def Obligations.LimitsAreJudged : Prop :=
  ∀ (s : State) (h : HolderId) (side : Side),
    let c := s.ctl
    (∀ (sw : Switch) (made : Bool),
      let c1 : Ctl := { c with pins := c.pins.put h (channelAfter (c.pins.get h) side sw made) }
      let run := exec (.limitEvent h side sw made) s
      (c.powered = false ∨ c.holders.get h = none → run = .next (s.withCtl c1)) ∧
      ∀ r, c.powered = true → c.holders.get h = some r →
        let v := r.valve side
        let l : ValveLimits := { openMade := if sw = .openLimit then made else v.limits.openMade
                                 closedMade := if sw = .closedLimit then made else v.limits.closedMade }
        let keeps : Prop := run = .next (s.withCtl { c1 with
          holders := c.holders.put h (some (r.putValve side { v with limits := l })) })
        let rests (st : ValveState) (event : ValveEvent) (faults : List FaultReport) : Prop :=
          let v' : ValveRec := { v with limits := l, state := st, timeout := none }
          let note := c.restNote h side r v' event
          ∃ o : Office, o.samePosts c.office ∧
            (side = .inlet ∨ st ≠ .opened ∨ (∀ d q, c.districts.get d = some q → q.prog.state ≠ .starved) → o = c.office) ∧
            run = .next (s.withCtl (((c1.rested h side r v' faults o).reportState h side st).post note)) ∧
            (c.unengaged h → run = .next (s.withCtl ((c1.rested h side r v' faults o).post note)))
        let fault : FaultReport :=
          { cause := .valveDisagree, object := .valve h side, detail1 := some (l.openMade.toNat : Int)
            detail2 := some (l.closedMade.toNat : Int) }
        let both : Prop := l.openMade = true ∧ l.closedMade = true
        let openOnly : Prop := l.openMade = true ∧ l.closedMade = false
        let closedOnly : Prop := l.openMade = false ∧ l.closedMade = true
        (both → (v.state = .opening ∨ v.state = .closing ∨ v.state = .stuck) → rests .disagree .disagree [fault]) ∧
        (v.state = .opening → (openOnly → rests .opened .arrived []) ∧ (l.openMade = false → keeps)) ∧
        (v.state = .closing → (closedOnly → rests .closed .arrived []) ∧ (l.closedMade = false → keeps)) ∧
        (v.state = .stuck → v.commanded = some .opened →
          (openOnly → rests .opened .arrivedLate []) ∧ (l.openMade = false → keeps)) ∧
        (v.state = .stuck → v.commanded = some .closed →
          (closedOnly → rests .closed .arrivedLate []) ∧ (l.closedMade = false → keeps)) ∧
        (v.state = .opened → (made = (sw == .closedLimit) → rests .disagree .disagree [fault]) ∧
          (made = (sw == .openLimit) → keeps)) ∧
        (v.state = .closed → (made = (sw == .openLimit) → rests .disagree .disagree [fault]) ∧
          (made = (sw == .closedLimit) → keeps)) ∧
        (v.state = .disagree ∨ v.state = .unknown → keeps)) ∧
    (c.holders.get h = none → exec (.valveTravelTimeout h side) s = .next s) ∧
    ∀ r, c.powered = true → c.holders.get h = some r →
      let v := r.valve side
      let v' : ValveRec := { v with state := .stuck, timeout := none }
      let runsOut : Prop := (v.state = .opening ∨ v.state = .closing) ∧ v.timeout = some 0
      (¬ runsOut → exec (.valveTravelTimeout h side) s = .next s) ∧
      (runsOut →
        let fault : FaultReport :=
          { cause := .valveStuck, object := .valve h side
            detail1 := v.commanded.map fun p => if p = .opened then 0 else 1
            detail2 := some (v.timeoutLength : Int) }
        let note := c.restNote h side r v' .stuck
        exec (.valveTravelTimeout h side) s =
          .next (s.withCtl (((c.rested h side r v' [fault] c.office).reportState h side .stuck).post note)) ∧
        (c.unengaged h → exec (.valveTravelTimeout h side) s =
          .next (s.withCtl ((c.rested h side r v' [fault] c.office).post note))))

/-- R27, R32, R55 to R57, R59, R104: a sample that newly sets Landed or Top: the trip shuts that valve with the trip as its
source whatever the interlocks, a landing trip that shuts the last outlet starves the programmes, a top trip that shuts the
last inlet with make flowing asserts make relief, the orders are told of the trip, the VALVE notice is posted, and the
sample's stock and flags are given to the orders; and a sample that sets neither moves no valve but by the orders. What the
orders do is the statements FlowOrdersEnd and OrdersFollowTheirValves; where no ACTIVE order names the holder, nothing. The
booster reason kept through a starvation is log 29 (DEDUCED), the districts' order log 40, and that the notice follows what
the orders do log 11 (DEDUCED). -/
def Obligations.TripsShutTheValves : Prop :=
  ∀ (s : State) (h : HolderId) (k1 k2 k3 : Code) (r : HolderRec) (f : Figures), s.ctl.powered = true →
    s.ctl.holders.get h = some r →
    let c := s.ctl
    let v := r.defn.readings { crown := k1, pressure := k2, temperature := k3 }
    let crown := crownTake r.crown r.discards v.crown
    let r0 : HolderRec := { r with
      crown := crown.input, discards := crown.discards, pressure := r.pressure.take v.pressure
      temperature := r.temperature.take v.temperature, lastSample := some c.clock.minute }
    r0.sampleFigures c.baro.value = some f →
    let q := (r0.stage5 f c.baro.lost).1
    let given : Given := { stock := f.stock, flags := q.flags }
    let run := exec (.holderSample h k1 k2 k3) s
    let shut (side : Side) (src : Source) : HolderRec :=
      let w := q.valve side
      let x : ValveRec := { w with commanded := some .closed, source := src }
      let y : ValveRec :=
        if w.state = .closing ∨ w.state = .closed then x
        else { x with state := .closing, timeout := some (3 * w.travelTime / 2), timeoutLength := 3 * w.travelTime / 2 }
      { q.putValve side y with conn := (q.putValve side y).connection }
    let note (side : Side) (src : Source) (relief : Bool) : NoticeContent :=
      let w := (q.valve side).state
      .valve { holder := h, side := side
               event := if w = .closing ∨ w = .closed then .tripHeld else if w = .opening then .reversed else .moving
               state := if w = .closed then .closed else .closing, commanded := some .closed, source := src
               limits := (q.valve side).limits, conn := (shut side src).connection, relief := relief
               reliefChanged := c.relief != relief }
    let elsewhere (side : Side) : Prop :=
      ∃ i x, i ≠ h ∧ c.holders.get i = some x ∧ (x.valve side).commanded = some .opened
    ∃ ds relief faults, ∃ o : Office, ∃ q', o.samePosts c.office ∧
      let c' : Ctl := { c with
        holders := c.holders.put h (some q'), districts := ds, relief := relief
        faults := { c.faults with handed := c.faults.handed ++ faults }, office := o }
      let tripped (kind : TripKind) (n : NoticeContent) : Prop :=
        run = .next (s.withCtl (((c'.orderTrip h kind).post n).giveSample h given)) ∧
        (c.unengaged h → run = .next (s.withCtl (c'.post n)))
      (tripsOf r.flags q.flags = [] → run = .next (s.withCtl (c'.giveSample h given)) ∧
        (c.unengaged h → run = .next (s.withCtl c')) ∧ q' = q ∧ ds = c.districts ∧ relief = c.relief) ∧
      (tripsOf r.flags q.flags = [.landing] → tripped .landing (note .outlet .landingTrip relief) ∧
        q' = shut .outlet .landingTrip ∧ relief = c.relief ∧ (elsewhere .outlet → ds = c.districts) ∧
        (¬ elsewhere .outlet → ds = c.districts.each (DistrictRec.outletLost h)) ∧
        { cause := .landingTrip, object := .holder h, detail1 := some (f.h : Int), detail2 := some (f.stock : Int) } ∈
          faults) ∧
      (tripsOf r.flags q.flags = [.top] → tripped .top (note .inlet .topTrip relief) ∧
        q' = shut .inlet .topTrip ∧ ds = c.districts ∧
        (elsewhere .inlet ∨ c.makeFlowing = false → relief = c.relief) ∧
        (¬ elsewhere .inlet → c.makeFlowing = true → relief = true) ∧
        { cause := .topTrip, object := .holder h, detail1 := some (f.h : Int), detail2 := some (f.stock : Int) } ∈
          faults)

/-- R58: at every moment a holder whose Landed flag is set has its outlet commanded CLOSED, and one whose Top flag is set
its inlet: every step keeps it. -/
def Obligations.EndsStayShut : Prop :=
  ∀ s t : State, s.ctl.endsShut → step s = .next t → t.ctl.endsShut

/-! ### Transfer orders -/

/-- R63 to R70, R73, R75, R82: SUBMIT ORDER: refused, or numbered and appended, the starting rule run over the list and the
order's standing answered. The starting rule of R67: a held sequencer starts none; the oldest QUEUED order stays, and every
order behind it, while a holder it names is engaged or reserved, and else starts, the rule going on with the next. A start,
wherever the order stands in the list, as the table of R68 has it: ended INTERLOCKED or AT TARGET with no valve moved, or
ACTIVE with its valves commanded, a CHANGEOVER or an ISOLATE as far as the valves already stand where it wants them. The last
stock of an end record is log 12, and that an ISOLATE ended INTERLOCKED records no phase is log 52 (both DESIGN CHOICE). -/
def Obligations.OrdersAreSubmitted : Prop :=
  (∀ c : Ctl,
    (c.seq.held = true → c.startingRule = c) ∧
    ((∀ p ∈ c.seq.orders, p.phase.isSome = true) → c.startingRule = c) ∧
    ∀ front o behind, c.seq.held = false → c.seq.orders = front ++ o :: behind →
      (∀ p ∈ front, p.phase.isSome = true) → o.phase = none →
      (c.bars o → c.startingRule = c) ∧ (¬ c.bars o → c.startingRule = (c.startOrder o).startingRule)) ∧
  (∀ (c : Ctl) (o : Order) (r : HolderRec), o ∈ c.seq.orders → (∀ p ∈ c.seq.orders, p.number = o.number → p = o) →
    o.phase = none → c.holders.get o.holder = some r →
    let a := o.holder
    let start := c.startOrder o
    let active (c' : Ctl) (holders : PerHolder (Option HolderRec)) (p : Phase) : Prop :=
      start = c'.orderKept { o with phase := some p } ∧ start.holders = holders
    let gone (c' : Ctl) (holders : PerHolder (Option HolderRec)) (p : Option Phase) (reason : EndReason)
        (x : EndCause) : Prop :=
      start = c'.orderLeft ({ o with phase := p }.endsAs c reason x) ∧ start.holders = holders
    let stopped (h : HolderId) (w : Interlock) : Prop := gone c c.holders none .interlocked (.interlock h w)
    let commands (c' : Ctl) (h : HolderId) (side : Side) (p : Position) : Ctl := (c'.orderCommand o.number h side p).1
    let commanded (x : HolderRec) (side : Side) (p : Position) : HolderRec := (x.take side p (.order o.number)).1
    let one (x : HolderRec) : PerHolder (Option HolderRec) := c.holders.put a (some x)
    let opens (side : Side) (opening running : Phase) : Prop :=
      active (commands c a side .opened) (one (commanded r side .opened))
        (if (r.valve side).state = .opened then running else opening)
    let stock : Option Nat := r.figures.map Figures.stock
    (o.kind = .fill →
      (r.flags.top = true → stopped a .top) ∧
      (r.flags.top = false → o.target = none → r.flags.topNear = true → stopped a .topNear) ∧
      (∀ g k, r.flags.top = false → o.target = some g → stock = some k → g ≤ k →
        gone c c.holders none .atTarget .none) ∧
      (r.flags.top = false → (o.target = none → r.flags.topNear = false) →
        (∀ g k, o.target = some g → stock = some k → k < g) → opens .inlet .openingInlet .runningFill)) ∧
    (o.kind = .draw →
      (r.flags.landed = true → stopped a .landed) ∧
      (r.flags.landed = false → o.target = none → r.flags.landingNear = true → stopped a .landingNear) ∧
      (∀ g k, r.flags.landed = false → o.target = some g → stock = some k → k ≤ g →
        gone c c.holders none .atTarget .none) ∧
      (r.flags.landed = false → (o.target = none → r.flags.landingNear = false) →
        (∀ g k, o.target = some g → stock = some k → g < k) → opens .outlet .openingOutlet .runningDraw)) ∧
    (∀ b x, o.kind = .changeover → o.second = some b → b ≠ a → c.holders.get b = some x →
      (x.flags.landed = true → stopped b .landed) ∧
      (x.flags.landed = false → r.outlet.commanded ≠ some .opened → stopped a .aOutletNotOpen) ∧
      (x.flags.landed = false → r.outlet.commanded = some .opened →
        let c1 := commands c b .outlet .opened
        let c2 := commands c1 a .outlet .closed
        let h1 := c.holders.put b (some (commanded x .outlet .opened))
        let h2 := h1.put a (some (commanded r .outlet .closed))
        (x.outlet.state ≠ .opened → active c1 h1 .openingNew) ∧
        (x.outlet.state = .opened → r.outlet.state ≠ .closed → active c2 h2 .closingOld) ∧
        (x.outlet.state = .opened → r.outlet.state = .closed → gone c2 h2 (some .closingOld) .done .none))) ∧
    (o.kind = .isolate →
      let lone (side : Side) : Prop := (r.valve side).commanded = some .opened ∧
        ∀ i y, i ≠ a → c.holders.get i = some y → (y.valve side).commanded ≠ some .opened
      let inHeld : Prop := lone .inlet ∧ c.makeFlowing = true
      let outHeld : Prop := lone .outlet ∧
        ∃ d y, c.districts.get d = some y ∧ (y.prog.state = .running ∨ y.prog.state = .endHold)
      let c2 := commands (commands c a .inlet .closed) a .outlet .closed
      let left (x : HolderRec) (w : Interlock) : Prop := gone c2 (one x) none .interlocked (.interlock a w)
      (inHeld → outHeld → left r .bothLast) ∧
      (inHeld → ¬ outHeld → left (commanded r .outlet .closed) .lastInlet) ∧
      (¬ inHeld → outHeld → left (commanded r .inlet .closed) .lastOutlet) ∧
      (¬ inHeld → ¬ outHeld →
        let x := commanded (commanded r .inlet .closed) .outlet .closed
        let shut : Prop := x.inlet.state = .closed ∧ x.outlet.state = .closed
        (¬ shut → active c2 (one x) .closing) ∧ (shut → gone c2 (one x) (some .closing) .done .none)))) ∧
  ∀ (s : State) (tag : Byte) (body : List Byte), s.ctl.admits → within 4 9 body.length = true →
    let c := s.ctl
    let run := exec (.submitOrder tag body) s
    let refused (r : Result) : Prop := run = .next (s.withCtl (c.answered 0x10#8 tag r .nothing))
    (∀ e, parseSubmitOrder body = .error e → refused e) ∧
    ∀ o, parseSubmitOrder body = .ok o →
      let defined : Prop := (c.holders.get o.holder).isSome = true ∧
        ∀ b, o.second = some b → (c.holders.get b).isSome = true
      let order (n : Nat) : Order :=
        { number := n, kind := o.kind, holder := o.holder, second := o.second, target := o.target
          deadline := o.deadline, endAction := o.endAction, phase := none, minutesRun := 0, arrivalPending := false
          given := none }
      let fresh (n : Nat) : Prop := 1 ≤ n ∧ n ≤ 999 ∧ c.seq.numberInUse n = false ∧
        (c.seq.numberInUse c.seq.nextNumber = false → n = c.seq.nextNumber)
      (¬ defined → refused .notDefined) ∧
      (defined → 8 ≤ c.seq.orders.length → refused .full) ∧
      (defined → c.seq.orders.length < 8 → c.seq.sound → 1 ≤ c.seq.nextNumber → c.seq.nextNumber ≤ 999 →
        ∃ n st, fresh n ∧
          let listed : Sequencer := { c.seq with
            orders := c.seq.orders ++ [order n], nextNumber := if n = 999 then 1 else n + 1 }
          let t : Ctl := { c.taken with seq := listed }.startingRule
          run = .next (s.withCtl (t.repliedWith 0x10#8 tag .done (.submitted n st))) ∧
          (∀ p ∈ t.seq.orders, p.number = n → st = match p.phase with
            | some phase => .active phase
            | none => .queued) ∧
          ((∀ p ∈ t.seq.orders, p.number ≠ n) → ∃ e ∈ t.seq.ended, e.number = n ∧ st = .ended e.reason) ∧
          (c.seq.held = true → run = .next (s.withCtl
            ({ c with seq := listed }.answered 0x10#8 tag .done (.submitted n .queued)))))

/-- R79 to R82: CANCEL ORDER, ORDERS HOLD and ORDERS RESUME. A cancelled order leaves the list: a QUEUED one, while held, with
nothing else but its end record and its notice; an ACTIVE one, alone in the list, with its end action or the close of a
CHANGEOVER's new outlet. A resume takes the ACTIVE orders in list order (`resumeOrder`), runs the starting rule and answers:
a pending arrival whose valve still stands where it was awaited makes its phase step, one whose valve has left is awaited
again, and a FILL or DRAW in RUNNING is judged on what it was last given. The last stock of an end record, and that a resume
judges what was given while that very order was ACTIVE, are log 12; that the hold is lifted before the orders are taken, so
that each end among them runs the starting rule at once, is log 51 (both DESIGN CHOICE). -/
def Obligations.OrdersAreCancelledAndHeld : Prop :=
  (∀ (c : Ctl) (o : Order), o ∈ c.seq.orders → (∀ p ∈ c.seq.orders, p.number = o.number → p = o) →
    o.phase.isSome = true →
    let resumed := c.resumeOrder o.number
    let q : Order := { o with arrivalPending := false }
    let waits : Prop := resumed = c.orderKept q
    let ended (c' : Ctl) (x : Order) : Prop := resumed = (c'.orderLeft (x.endsAs c .done .none)).startingRule
    let judged (x : Order) : Prop :=
      (∀ g, x.given = some g → x.reached g → resumed =
        ((c.orderKept x).flowEnded x (if x.target.isSome then .atTarget else .atBand) .none).startingRule) ∧
      ((∀ g, x.given = some g → ¬ x.reached g) → resumed = c.orderKept x)
    (o.phase = some .runningFill ∨ o.phase = some .runningDraw → judged q) ∧
    (o.phase ≠ some .runningFill → o.phase ≠ some .runningDraw → o.arrivalPending = false → resumed = c) ∧
    ∀ r, o.arrivalPending = true → c.holders.get o.holder = some r →
      (o.phase = some .openingInlet →
        (r.inlet.state = .opened → judged { q with phase := some .runningFill }) ∧ (r.inlet.state ≠ .opened → waits)) ∧
      (o.phase = some .openingOutlet →
        (r.outlet.state = .opened → judged { q with phase := some .runningDraw }) ∧ (r.outlet.state ≠ .opened → waits)) ∧
      (∀ b x, o.phase = some .openingNew → o.second = some b → c.holders.get b = some x →
        let c' := (c.orderCommand o.number o.holder .outlet .closed).1
        let old : Order := { q with phase := some .closingOld }
        (x.outlet.state ≠ .opened → waits) ∧
        (x.outlet.state = .opened → r.outlet.state ≠ .closed → resumed = c'.orderKept old) ∧
        (x.outlet.state = .opened → r.outlet.state = .closed → ended c' old)) ∧
      (o.phase = some .closingOld → (r.outlet.state = .closed → ended c o) ∧ (r.outlet.state ≠ .closed → waits)) ∧
      (o.phase = some .closing →
        (r.inlet.state = .closed → r.outlet.state = .closed → ended c o) ∧
        (r.inlet.state ≠ .closed ∨ r.outlet.state ≠ .closed → waits))) ∧
  ∀ (s : State) (tag b1 b2 : Byte), s.ctl.admits →
    let c := s.ctl
    let run := exec (.cancelOrder tag [b1, b2]) s
    let n := 256 * b1.toNat + b2.toNat
    let refused (r : Result) : Prop := run = .next (s.withCtl (c.answered 0x11#8 tag r .nothing))
    let found : Option Order := c.seq.orders.find? fun o => o.number == n
    ((n = 0 ∨ 1000 ≤ n) → refused .outOfRange) ∧
    (1 ≤ n → n ≤ 999 → found = none → refused .notFound) ∧
    (∀ o, 1 ≤ n → n ≤ 999 → found = some o →
      (o.phase = some .closingOld → refused .tooLate) ∧
      (o.phase ≠ some .closingOld → ∃ t, run = .next t ∧ t.pending = s.pending ∧
        (∀ p ∈ t.ctl.seq.orders, p.number ≠ n) ∧ t.ctl.seq.held = c.seq.held ∧
        t.ctl.seq.nextNumber = c.seq.nextNumber ∧
        t.ctl.office.replies = c.office.replies ++ [{ kind := 0x11#8, tag := tag, result := .done, content := .nothing }]) ∧
      (o.phase = none → c.seq.held = true →
        let r := o.endsAs c .cancelled .none
        run = .next (s.withCtl (({ c with seq := { c.seq with
          orders := c.seq.orders.filter fun p => p.number != n, ended := c.seq.endedWith r } }.post
            (.orderEnd r)).answered 0x11#8 tag .done .nothing))) ∧
      (c.seq.orders = [o] →
        let becomes (c' : Ctl) : Prop := run = .next (s.withCtl (c'.answered 0x11#8 tag .done .nothing))
        (o.kind = .fill → (o.phase = some .openingInlet ∨ o.phase = some .runningFill) →
          becomes (c.flowEnded o .cancelled .none)) ∧
        (o.kind = .draw → (o.phase = some .openingOutlet ∨ o.phase = some .runningDraw) →
          becomes (c.flowEnded o .cancelled .none)) ∧
        (∀ b, o.phase = some .openingNew → o.second = some b →
          becomes (c.changeoverEnded o b .cancelled .none)) ∧
        (o.phase = some .closing → becomes (c.orderLeft (o.endsAs c .cancelled .none))))) ∧
    exec (.ordersHold tag []) s = .next (s.withCtl
      ({ c with seq := { c.seq with held := true } }.answered 0x13#8 tag .done (.hold true))) ∧
    (c.seq.held = false → exec (.ordersResume tag []) s = .next (s.withCtl
      (c.answered 0x14#8 tag .done (.hold false)))) ∧
    (c.seq.held = true → c.seq.orders = [] → exec (.ordersResume tag []) s = .next (s.withCtl
      ({ c with seq := { c.seq with held := false } }.answered 0x14#8 tag .done (.hold false)))) ∧
    (c.seq.held = true →
      let freed : Ctl := { c.taken with seq := { c.seq with held := false } }
      let active := (c.seq.orders.filter fun o => o.phase.isSome).map Order.number
      let t := (active.foldl Ctl.resumeOrder freed).startingRule
      exec (.ordersResume tag []) s = .next (s.withCtl (t.repliedWith 0x14#8 tag .done (.hold false))) ∧
      t.seq.held = false ∧ t.office.replies = c.office.replies)

/-- R20, R71, R72, R78, R82: a FILL or DRAW alone in the list ends at its target or its band when a sample is given, and TIMED
OUT at the minute of its deadline, with its end action applied to the valve it commanded; until then, and while the sequencer
is held, it goes on. MINUTE_EVENT runs `ordersMinute` (the statement MinutesCloseThePeriods). That the last stock given is
kept by holder and the stock judged by order is log 12 (DESIGN CHOICE). -/
def Obligations.FlowOrdersEnd : Prop :=
  ∀ (c : Ctl) (o : Order), c.seq.orders = [o] → o.phase.isSome = true → (o.kind = .fill ∨ o.kind = .draw) →
    (∀ g : Given,
      let o' : Order := { o with given := some g }
      let kept : Ctl := { c with seq := { c.seq with
        orders := [o'], lastStock := c.seq.lastStock.put o.holder (some g.stock) } }
      (o.reached g → c.seq.held = false → c.giveSample o.holder g =
        kept.flowEnded o' (if o.target.isSome then .atTarget else .atBand) .none) ∧
      (¬ o.reached g ∨ c.seq.held = true → c.giveSample o.holder g = kept)) ∧
    let o' : Order := { o with minutesRun := o.minutesRun + 1 }
    let kept : Ctl := { c with seq := { c.seq with orders := [o'] } }
    (c.seq.held = true → c.ordersMinute = c) ∧
    (c.seq.held = false → o.minutesRun + 1 = o.deadline → c.ordersMinute = kept.flowEnded o' .timedOut .none) ∧
    (c.seq.held = false → o.minutesRun + 1 ≠ o.deadline → c.ordersMinute = kept)

/-- R81: while the sequencer is held no order starts, steps on or counts a minute, whatever happens. -/
def Obligations.HeldOrdersStandStill : Prop :=
  ∀ (i : Instr) (s t : State), s.ctl.seq.held = true → exec i s = .next t → t.ctl.seq.held = true →
    ∀ o ∈ t.ctl.seq.orders, (o.phase = none ∧ o.minutesRun = 0 ∧ o.given = none) ∨
      ∃ p ∈ s.ctl.seq.orders, p.number = o.number ∧ p.phase = o.phase ∧ p.minutesRun = o.minutesRun

/-! ### Programmes and pressures -/

/-- R92, R93, R95, R96: WRITE STEP, SET LAST STEP and SET REPEAT: what they refuse and what they change, the reply carrying
the programme summary after the change. That SET REPEAT's flag comes before its repeat start is log 56, and that the flag is a
yes-or-no byte, 1 for on, 0 for off and any other refused, is log 49 (both DESIGN CHOICE). -/
def Obligations.TheRingIsWritten : Prop :=
  ∀ (s : State) (tag : Byte), s.ctl.admits →
    let c := s.ctl
    let refused (i : Instr) (kind : Byte) (r : Result) : Prop :=
      exec i s = .next (s.withCtl (c.answered kind tag r .nothing))
    let becomes (i : Instr) (kind : Byte) (d : DistrictId) (r : DistrictRec) (p : Programme) : Prop :=
      exec i s = .next (s.withCtl ({ c with districts := c.districts.put d (some { r with prog := p }) }.answered
        kind tag .done (.summary { state := p.state, current := p.current, last := p.last, repeats := p.repeats
                                   repeatStart := p.repeatStart, remaining := p.remaining, setPoint := p.setPoint })))
    (∀ body e, body.length = 8 → parseWriteStep body = .error e → refused (.writeStep tag body) 0x1B#8 e) ∧
    (∀ b x e, parseStepIndex [b, x] = .error e → refused (.setLastStep tag [b, x]) 0x1D#8 e) ∧
    (∀ b x y e, parseSetRepeat [b, x, y] = .error e → refused (.setRepeat tag [b, x, y]) 0x21#8 e) ∧
    (∀ d k (e : Step), k ≤ 15 → e.inRange = true →
      let i : Instr := .writeStep tag (u8 (districtIndex d) ++ u8 k ++ u16 e.target ++ u8 e.ramp ++ u16 e.hold ++
        u8 (e.report.toNat + 2 * e.boost.toNat))
      (c.districts.get d = none → refused i 0x1B#8 .notDefined) ∧
      ∀ r, c.districts.get d = some r →
        (r.prog.state ≠ .idle → r.prog.current = k → refused i 0x1B#8 .wrongState) ∧
        (r.prog.state = .idle ∨ r.prog.current ≠ k →
          becomes i 0x1B#8 d r { r.prog with ring := r.prog.ring.set k (some e) })) ∧
    (∀ d (x : Byte), x.toNat ≤ 15 →
      let j := x.toNat
      let i : Instr := .setLastStep tag (u8 (districtIndex d) ++ [x])
      (c.districts.get d = none → refused i 0x1D#8 .notDefined) ∧
      ∀ r, c.districts.get d = some r →
        let p := r.prog
        let written : Prop := ∀ m, m ≤ (j + 16 - p.current) % 16 → (p.entry ((p.current + m) % 16)).isSome = true
        (¬ written → refused i 0x1D#8 .notDefined) ∧
        (written → (p.underlying ≠ some .endHold ∨ j = p.current) → becomes i 0x1D#8 d r { p with last := some j }) ∧
        (written → p.underlying = some .endHold → j ≠ p.current → ∃ q : Programme, becomes i 0x1D#8 d r q ∧
          q.underlying = some .running ∧ q.state = (if p.state = .endHold then .running else p.state) ∧
          q.last = some j ∧ q.current = (p.current + 1) % 16 ∧ q.remaining = p.holdAt ((p.current + 1) % 16) ∧
          q.ring = p.ring ∧ q.setPoint = p.setPoint ∧ q.repeats = p.repeats ∧ q.repeatStart = p.repeatStart)) ∧
    (∀ d (f x : Byte), f.toNat ≤ 1 → x.toNat ≤ 15 →
      let i : Instr := .setRepeat tag (u8 (districtIndex d) ++ [f, x])
      (c.districts.get d = none → refused i 0x21#8 .notDefined) ∧
      ∀ r, c.districts.get d = some r →
        becomes i 0x21#8 d r { r.prog with repeats := decide (f.toNat = 1), repeatStart := x.toNat })

/-- R87, R92, R97 to R99, R115, R117, R122: PROGRAMME RUN, PROGRAMME PAUSE and PROGRAMME CLEAR of a defined district, state by
state. That PROGRAMME CLEAR keeps the booster reason is log 29 (DEDUCED), that it posts no SHORT ENDED is log 53 (DESIGN
CHOICE), and that a run from PAUSED into STARVED keeps the booster called is log 41. -/
def Obligations.ProgrammesRunAndPause : Prop :=
  ∀ (s : State) (tag : Byte) (d : DistrictId) (r : DistrictRec), s.ctl.admits → s.ctl.districts.get d = some r →
    let c := s.ctl
    let body := u8 (districtIndex d)
    let p := r.prog
    let refused (i : Instr) (kind : Byte) (x : Result) : Prop :=
      exec i s = .next (s.withCtl (c.answered kind tag x .nothing))
    let holds (q : DistrictRec) : Ctl := { c with districts := c.districts.put d (some q) }
    let summary (q : Programme) : ReplyContent := .summary
      { state := q.state, current := q.current, last := q.last, repeats := q.repeats, repeatStart := q.repeatStart
        remaining := q.remaining, setPoint := q.setPoint }
    let runs (q : DistrictRec) : Prop := exec (.programmeRun tag body) s = .next (s.withCtl
      ((holds q).answered 0x1E#8 tag .done (summary q.prog)))
    let outlet : Prop := ∃ h x, c.holders.get h = some x ∧ x.outlet.commanded = some .opened
    (c.districtReserved d = true → refused (.programmeRun tag body) 0x1E#8 .busy) ∧
    (c.districtReserved d = false →
      (p.state = .idle → p.last = none → refused (.programmeRun tag body) 0x1E#8 .notDefined) ∧
      (p.state = .idle → p.last.isSome = true → ¬ outlet → refused (.programmeRun tag body) 0x1E#8 .interlock) ∧
      (p.state = .idle → p.last.isSome = true → outlet → runs { r with
        prog := { p with state := .running, current := 0, remaining := p.holdAt 0, setPoint := r.defn.minimum }
        openingWrite := true }) ∧
      (∀ u, p.state = .paused → p.underlying = some u → outlet → runs { r with
        prog := { p with state := u, beforePause := none, beforeStarve := none, starvingTrip := none } }) ∧
      (∀ u, p.state = .paused → p.underlying = some u → ¬ outlet → runs { r with
        prog := { p with state := .starved, beforePause := none, beforeStarve := some u } }) ∧
      ((p.state = .running ∨ p.state = .endHold ∨ p.state = .starved) →
        refused (.programmeRun tag body) 0x1E#8 .wrongState)) ∧
    ((p.state = .running ∨ p.state = .endHold ∨ p.state = .starved) →
      let q : Programme := { p with state := .paused, beforePause := some p.state }
      exec (.programmePause tag body) s = .next (s.withCtl
        ((holds { r with prog := q }).answered 0x1F#8 tag .done (summary q))) ∧
      refused (.programmeClear tag body) 0x20#8 .wrongState) ∧
    ((p.state = .idle ∨ p.state = .paused) →
      let q : Programme :=
        { ring := List.replicate 16 none, current := 0, last := none, repeats := false, repeatStart := 0, remaining := 0
          setPoint := r.defn.minimum, state := .idle, beforePause := none, beforeStarve := none, starvingTrip := none }
      let r' : DistrictRec := { r with
        prog := q, boosterCalled := false, boosterRun := 0, short := false, lowCount := 0, lowReported := false
        openingWrite := false }
      refused (.programmePause tag body) 0x1F#8 .wrongState ∧
      (r.boosterCalled = false → exec (.programmeClear tag body) s = .next (s.withCtl
        ((holds r').answered 0x20#8 tag .done (summary q)))) ∧
      (r.boosterCalled = true → exec (.programmeClear tag body) s = .next (s.withCtl
        (((holds r').post (.pressure { district := d, event := .boosterReleased .cleared, state := .idle
                                       setPoint := r.defn.minimum, figures := r.figures, boosterCalled := false
                                       short := false })).answered 0x20#8 tag .done (summary q)))))

/-- R100 to R102: a minute event at a programme, state by state: the move of S at the ramp, the time counted, the end of a
step, the wrap or END-HOLD at the last step. -/
def Obligations.ProgrammesFollowTheirSteps : Prop :=
  ∀ (s : State) (d : DistrictId) (r : DistrictRec), s.ctl.powered = true → s.ctl.districts.get d = some r →
    let p := r.prog
    let moved : Nat := match p.entry p.current with
      | some e =>
        if e.ramp = 0 then e.target
        else if p.setPoint < e.target then min (p.setPoint + e.ramp) e.target
        else max (p.setPoint - e.ramp) e.target
      | none => p.setPoint
    let p1 : Programme := { p with setPoint := moved, remaining := p.remaining - 1 }
    let wraps (last : Nat) : Prop := p.repeats = true ∧
      ∀ m, m ≤ (last + 16 - p.repeatStart) % 16 → (p.entry ((p.repeatStart + m) % 16)).isSome = true
    let next := (p.current + 1) % 16
    ∃ t q, exec .minuteEvent s = .next t ∧ t.ctl.districts.get d = some q ∧ q.defn = r.defn ∧
      ((p.state = .idle ∨ p.state = .paused ∨ p.state = .starved) → q.prog = p) ∧
      (p.state = .endHold → q.prog = { p with setPoint := moved }) ∧
      (p.state = .running → 2 ≤ p.remaining → q.prog = p1) ∧
      (p.state = .running → p.remaining ≤ 1 → p.last ≠ some p.current →
        q.prog = { p1 with current := next, remaining := p.holdAt next }) ∧
      (p.state = .running → p.remaining ≤ 1 → p.last = some p.current → wraps p.current →
        q.prog = { p1 with current := p.repeatStart, remaining := p.holdAt p.repeatStart }) ∧
      (p.state = .running → p.remaining ≤ 1 → p.last = some p.current → ¬ wraps p.current →
        q.prog = { p1 with state := .endHold, remaining := 0 })

/-- R109 to R117, R119, R133: the minute's work of a district whose programme is RUNNING or END-HOLD: the slots taken, the
main pressure, the learned loss, the ceiling, the three tests of the booster and its call and release, the effective
set-point within the limits, PRESSURE SHORT, the low-pressure count, and the set-point posted while the line is busy. In
every other state none of it is touched. That the main pressure is formed from the outlets as they stand before the minute
of the orders is log 13, and the withdrawal of a pending write is log 32 (both DEDUCED). -/
def Obligations.PressuresAreJudged : Prop :=
  ∀ (s : State) (d : DistrictId) (r : DistrictRec), s.ctl.powered = true → s.ctl.districts.get d = some r →
    let c := s.ctl
    let fresh (x : Slot) (v : Nat) : Prop := x.fresh = true ∧ x.value = some v
    ∃ t q, exec .minuteEvent s = .next t ∧ t.ctl.districts.get d = some q ∧
      (¬ (q.prog.state = .running ∨ q.prog.state = .endHold) →
        q.figures = r.figures ∧ q.loss = r.loss ∧ q.boosterCalled = r.boosterCalled ∧ q.boosterRun = r.boosterRun ∧
        q.short = r.short ∧ q.lowCount = r.lowCount ∧ q.confirmed = r.confirmed ∧ q.openingWrite = r.openingWrite ∧
        q.station.slot1 = r.station.slot1) ∧
      ((q.prog.state = .running ∨ q.prog.state = .endHold) → ∃ main e,
        let ceiling := main - max r.defn.lossAllowance q.loss
        let sp := q.prog.setPoint
        let permits : Prop := ∃ x, q.prog.entry q.prog.current = some x ∧ x.boost = true
        q.figures = some { main := main, ceiling := ceiling, effective := e } ∧
        (∀ h x f, c.holders.get h = some x → x.figures = some f → x.outlet.state = .opened → f.pg ≤ main) ∧
        (main = 0 ∨ ∃ h x f, c.holders.get h = some x ∧ x.figures = some f ∧ x.outlet.state = .opened ∧ f.pg = main) ∧
        (∀ v, fresh r.station.slot3 v → 0 < main → q.loss = (2 * (3 * r.loss + min 300 (main - v)) + 4) / 8) ∧
        (main = 0 ∨ (∀ v, ¬ fresh r.station.slot3 v) → q.loss = r.loss) ∧ (r.loss ≤ 300 → q.loss ≤ 300) ∧
        e = min r.defn.maximum (max r.defn.minimum (if q.boosterCalled then sp else min sp ceiling)) ∧
        q.short = (decide (ceiling < sp) && !q.boosterCalled) ∧
        (r.defn.booster = false → q.boosterCalled = r.boosterCalled) ∧
        (r.defn.booster = true →
          let p := q.prog
          let wraps (last : Nat) : Prop := p.repeats = true ∧
            ∀ m, m ≤ (last + 16 - p.repeatStart) % 16 → (p.entry ((p.repeatStart + m) % 16)).isSome = true
          let follows (i : Nat) : Prop := ∃ last, p.last = some last ∧
            ((p.current ≠ last ∧ i = (p.current + 1) % 16) ∨ (p.current = last ∧ wraps last ∧ i = p.repeatStart))
          let step : Prop := ceiling < sp ∧ permits
          let ahead : Prop := p.state = .running ∧ p.remaining ≤ r.defn.boosterLead ∧
            ∃ i x, follows i ∧ p.entry i = some x ∧ x.boost = true ∧ ceiling < x.target
          let wide : Prop := ∃ travel reading ec, fresh r.station.slot2 travel ∧ fresh r.station.slot1 reading ∧
            95 ≤ travel ∧ r.confirmed = some ec ∧ reading + 10 < ec ∧ permits
          let wanted : Prop := step ∨ ahead ∨ wide
          let run := min (r.boosterRun + 1) 10
          (step → q.boosterReason = some .currentStep) ∧
          (¬ step → ahead → q.boosterReason = some .lookAhead) ∧
          (¬ step → ¬ ahead → wide → q.boosterReason = some .governorWide) ∧
          (¬ wanted → q.boosterReason = none) ∧
          (r.boosterCalled = false → wanted → q.boosterCalled = true ∧ q.boosterRun = 0) ∧
          (r.boosterCalled = false → ¬ wanted → q.boosterCalled = false) ∧
          (r.boosterCalled = true → wanted ∨ run < 10 → q.boosterCalled = true ∧ q.boosterRun = run) ∧
          (r.boosterCalled = true → ¬ wanted → run = 10 → q.boosterCalled = false ∧ q.boosterRun = 0)) ∧
        (∀ v ec, fresh r.station.slot1 v → r.confirmed = some ec →
          (v + r.defn.tolerance < ec → q.lowCount = min (r.lowCount + 1) 3 ∧
            q.lowReported = (r.lowReported || decide (q.lowCount = 3))) ∧
          (ec ≤ v + r.defn.tolerance → q.lowCount = 0 ∧ q.lowReported = false)) ∧
        (r.confirmed = none ∨ (∀ v, ¬ fresh r.station.slot1 v) →
          q.lowCount = r.lowCount ∧ q.lowReported = r.lowReported) ∧
        q.confirmed = r.confirmed ∧ q.openingWrite = false ∧ q.station.slot1.fresh = false ∧
        q.station.slot2.fresh = false ∧ q.station.slot3.fresh = false ∧
        (c.line.isSome = true → q.station.pendingWrite =
          if r.openingWrite then some e else if r.confirmed = some e then none else some e))

/-- R104: a programme is RUNNING or END-HOLD only while the outlet of some holder is commanded OPEN: every step keeps it,
with what it rests on: an outlet in OPENING is commanded OPEN (R46), a holder in removal has its outlet not commanded OPEN
(R7), and the sound order list (R64, R65). -/
def Obligations.SupplyIsKept : Prop :=
  ∀ s t : State, s.ctl.supplied → step s = .next t → t.ctl.supplied

/-- R116, R117: no set-point waits to be written to a station outside the limits of its district: every step keeps it. -/
def Obligations.WritesStayWithinLimits : Prop :=
  ∀ s t : State, s.ctl.writesWithinLimits → step s = .next t → t.ctl.writesWithinLimits

/-! ### The telemetry line -/

/-- R124, R130, R131, R134: STATION_READ_DUE runs the arbiter, which leaves a busy line alone and starts on an idle line, in
this order, the waiting pass-through, the pending write of the lowest district, and the most overdue read, the lowest
district's of equally overdue ones. That the event moves the time base on to the due time is log 6 (DESIGN CHOICE), and that
an undefined district's changes nothing is log 2. -/
def Obligations.TheArbiterChooses : Prop :=
  (∀ (s : State) (d : DistrictId), s.ctl.powered = true →
    (s.ctl.districts.get d = none → exec (.stationReadDue d) s = .next s) ∧
    ∀ r, s.ctl.districts.get d = some r → exec (.stationReadDue d) s = .next (s.withCtl
      { s.ctl with now := max s.ctl.now r.station.readDue }.arbiter)) ∧
  ∀ c : Ctl,
    let starts (served : Served) (address : Nat) (f : TeleFunction) : Option Exchange := some
      { served := served, address := address, function := f, attempt := 1, period := .quiet
        settings := { speed := c.settings.speed, quiet := c.settings.quiet, window := c.settings.window }
        since := c.now, orphan := false }
    let noPass : Prop := ∀ p, c.pass = some p → p.inFlight = true
    let before (i d : DistrictId) : Prop := districtIndex i < districtIndex d
    (c.line.isSome = true → c.arbiter = c) ∧
    (c.line = none →
      (∀ p, c.pass = some p → p.inFlight = false → c.arbiter = { c with
        pass := some { p with inFlight := true }, line := starts .pass p.address .readPoints }) ∧
      (noPass →
        (∀ d r v, c.districts.get d = some r → r.station.pendingWrite = some v →
          (∀ i x, before i d → c.districts.get i = some x → x.station.pendingWrite = none) →
          c.arbiter = { c with
            districts := c.districts.put d (some { r with station := { r.station with
              pendingWrite := none, writeInFlight := some v } })
            line := starts (.district d) r.station.address (.writeSetPoint v) }) ∧
        ((∀ i x, c.districts.get i = some x → x.station.pendingWrite = none) →
          (∀ d r, c.districts.get d = some r → r.station.readDue ≤ c.now →
            (∀ i x, i ≠ d → c.districts.get i = some x → r.station.readDue < x.station.readDue ∨
              (r.station.readDue = x.station.readDue ∧ before d i)) →
            c.arbiter = { c with
              districts := c.districts.put d (some { r with station := { r.station with
                readDue := c.now + 1000 * r.station.pollInterval, lastRead := some c.now } })
              line := starts (.district d) r.station.address .readPoints }) ∧
          ((∀ i x, c.districts.get i = some x → c.now < x.station.readDue) → c.arbiter = c))))

/-- R124 to R127, R129, R135, R140: TELEMETRY_QUIET_END, TELEMETRY_TRANSMIT_DONE, TELEMETRY_BYTE_RECEIVED and
REPLY_WINDOW_EXPIRY: the periods of an attempt in their order; a byte outside the window changes nothing; a window that runs
out fails the attempt with NO REPLY; a first or second attempt is followed by the next, a third ends a district's exchange,
its station SILENT and its write abandoned, or nothing but the line freed where its record was reset or discarded, and the
arbiter runs. The ends of periods reckoned on the model's time base are log 6, and that an end of a period that is not the
attempt's changes nothing is log 2. -/
def Obligations.AttemptsRunTheirPeriods : Prop :=
  ∀ (s : State) (b : Byte), s.ctl.powered = true →
    let c := s.ctl
    let ends (l : List Instr) : Prop := ∀ i ∈ l, exec i s = .next s
    (c.line = none →
      ends [.telemetryQuietEnd, .telemetryTransmitDone, .telemetryByteReceived b, .replyWindowExpiry]) ∧
    ∀ e, c.line = some e →
      let at_ (now : Nat) (x : Exchange) : Ctl := { c with now := now, line := some { x with since := now } }
      (e.period = .quiet →
        exec .telemetryQuietEnd s = .next (s.withCtl
          (at_ (max c.now (e.since + e.settings.quiet)) { e with period := .transmit })) ∧
        ends [.telemetryTransmitDone, .telemetryByteReceived b, .replyWindowExpiry]) ∧
      (e.period = .transmit →
        let bytes : Nat := if e.function = .readPoints then 6 else 8
        exec .telemetryTransmitDone s = .next (s.withCtl
          (at_ (max c.now (e.since + bytes * 10000 / e.settings.speed)) { e with period := .window [] })) ∧
        ends [.telemetryQuietEnd, .telemetryByteReceived b, .replyWindowExpiry]) ∧
      ∀ got, e.period = .window got →
        let whole : Nat := if e.function = .readPoints then 14 else 8
        let again := at_ (max c.now (e.since + e.settings.window)) { e with attempt := e.attempt + 1, period := .quiet }
        ends [.telemetryQuietEnd, .telemetryTransmitDone] ∧
        (got.length + 1 < whole → exec (.telemetryByteReceived b) s =
          .next (s.withCtl { c with line := some { e with period := .window (got ++ [b]) } })) ∧
        (∀ d r, e.attempt ≤ 2 → e.served = .district d → e.orphan = false → c.districts.get d = some r →
          exec .replyWindowExpiry s = .next (s.withCtl { again with
            districts := c.districts.put d (some { r with station := { r.station with
              lastFailure := some .noReply } }) })) ∧
        (∀ d, e.attempt ≤ 2 → e.served = .district d → e.orphan = true →
          exec .replyWindowExpiry s = .next (s.withCtl again)) ∧
        (e.attempt ≤ 2 → e.served = .pass → exec .replyWindowExpiry s = .next (s.withCtl { again with
          pass := c.pass.map fun p => { p with lastFailure := some .noReply } })) ∧
        let then_ : Ctl := { c with now := max c.now (e.since + e.settings.window) }
        (∀ d r, 3 ≤ e.attempt → e.served = .district d → e.orphan = false → c.districts.get d = some r →
          exec .replyWindowExpiry s = .next (s.withCtl (then_.exchangeLost e d r .noReply).arbiter)) ∧
        (∀ d, 3 ≤ e.attempt → e.served = .district d → e.orphan = true →
          exec .replyWindowExpiry s = .next (s.withCtl { then_ with line := none }.arbiter))

/-- R118, R126 to R129, R132, R135, R140, R208: the last byte of a reply: a good READ POINTS reply writes the four slots and
the last good reading, a good WRITE SET POINT reply confirms the set-point, and both leave the station RESPONDING; a reply
with a bad check, another address or another echo fails the attempt under its kind; and a third failed attempt leaves the
station SILENT, its write abandoned, with STATION SILENT raised and the silence held for the accounts. Where the record was
reset or discarded meanwhile, the outcome is discarded: the line is freed and the arbiter runs. -/
def Obligations.RepliesAreJudged : Prop :=
  (∀ (s : State) (e : Exchange) (got : List Byte) (b : Byte) (d : DistrictId), s.ctl.powered = true →
    s.ctl.line = some e → e.period = .window got → e.served = .district d → e.orphan = true → e.address < 256 →
    let frame := got ++ [b]
    let heard : Host.Outcome State Fault Refusal := exec (.telemetryByteReceived b) s
    let good : Prop :=
      (∃ body : List Byte, e.function = .readPoints ∧ body.length = 8 ∧ frame = telemetryFrame e.address 1 body) ∨
      (∃ v, e.function = .writeSetPoint v ∧ v < 65536 ∧ frame = telemetryFrame e.address 2 (u16 v))
    frame.length = (if e.function = .readPoints then 14 else 8) →
    (good ∨ 3 ≤ e.attempt → heard = .next (s.withCtl { s.ctl with line := none }.arbiter)) ∧
    (¬ good → e.attempt ≤ 2 → heard = .next (s.withCtl { s.ctl with
      line := some { e with attempt := e.attempt + 1, period := .quiet, since := s.ctl.now } }))) ∧
  ∀ (s : State) (e : Exchange) (got : List Byte) (b : Byte) (d : DistrictId) (r : DistrictRec), s.ctl.powered = true →
    s.ctl.line = some e → e.period = .window got → e.served = .district d → e.orphan = false →
    s.ctl.districts.get d = some r → e.address < 256 →
    let c := s.ctl
    let frame := got ++ [b]
    let code : Nat := if e.function = .readPoints then 1 else 2
    let heard : Host.Outcome State Fault Refusal := exec (.telemetryByteReceived b) s
    let fails (k : FailureKind) : Prop :=
      (e.attempt ≤ 2 → heard = .next (s.withCtl { c with
        districts := c.districts.put d (some { r with station := { r.station with lastFailure := some k } })
        line := some { e with attempt := e.attempt + 1, period := .quiet, since := c.now } })) ∧
      (3 ≤ e.attempt → heard = .next (s.withCtl (c.exchangeLost e d r k).arbiter))
    let answers (q : DistrictRec) (t : State) : Prop :=
      q.station.state = .responding ∧ q.prog = r.prog ∧ t.pending = s.pending ∧
      t.ctl.acc.silent = (if r.station.state = .silent then c.acc.silent.put d false else c.acc.silent) ∧
      t.ctl.acc.hour = c.acc.hour ∧ t.ctl.faults = c.faults ∧ t.ctl.holders = c.holders ∧ t.ctl.seq = c.seq
    (∀ n p x l : Nat, e.function = .readPoints → n < 16777216 → p < 65536 → x < 256 → l < 65536 →
      frame = telemetryFrame e.address 1 (u24 n ++ u16 p ++ u8 x ++ u16 l) →
      ∃ t q, heard = .next t ∧ t.ctl.districts.get d = some q ∧ answers q t ∧ q.confirmed = r.confirmed ∧
        q.station.slot0 = r.station.slot0.write n ∧ q.station.slot1 = r.station.slot1.write (min 600 p) ∧
        q.station.slot2 = r.station.slot2.write (min 100 x) ∧ q.station.slot3 = r.station.slot3.write (min 600 l) ∧
        q.station.lastGood = some c.clock.minute) ∧
    (∀ v : Nat, e.function = .writeSetPoint v → v < 65536 → frame = telemetryFrame e.address 2 (u16 v) →
      ∃ t q, heard = .next t ∧ t.ctl.districts.get d = some q ∧ answers q t ∧ q.confirmed = some v ∧
        q.station.slot1 = r.station.slot1 ∧ q.station.lastGood = r.station.lastGood) ∧
    ∀ (lead a f n : Byte) (body : List Byte) (k1 k2 : Byte),
      frame = [lead, a, f, n] ++ body ++ [k1, k2] → frame.length = (if e.function = .readPoints then 14 else 8) →
      let agrees : Prop := lead = 0xA6#8 ∧ [k1, k2] = checkBytes ([a, f, n] ++ body)
      (¬ agrees → fails .badCheck) ∧
      (agrees → a.toNat ≠ e.address → fails .wrongAddress) ∧
      (agrees → a.toNat = e.address → (f.toNat ≠ code ∨ n.toNat ≠ body.length) → fails .badEcho) ∧
      (∀ v, agrees → a.toNat = e.address → e.function = .writeSetPoint v → v < 65536 → body ≠ u16 v → fails .badEcho)

/-- R136, R137, R139: STATION PASS is refused, waits for the line or starts at once; its end is DONE with the points as
carried or SILENT with the last failure. CLEAR STATION MARKS clears the four overflow marks and carries them as they
stood. -/
def Obligations.StationsArePassedAndCleared : Prop :=
  (∀ (s : State) (tag a : Byte), s.ctl.admits →
    let c := s.ctl
    let run := exec (.stationPass tag [a]) s
    let refused (r : Result) : Prop := run = .next (s.withCtl (c.answered 0x26#8 tag r .nothing))
    let slot (started : Bool) : Option PassSlot :=
      some { address := a.toNat, tag := tag, inFlight := started, lastFailure := none }
    ((a.toNat = 0 ∨ 32 ≤ a.toNat) → refused .outOfRange) ∧
    (1 ≤ a.toNat → a.toNat ≤ 31 →
      (c.pass.isSome = true → refused .busy) ∧
      (c.pass = none → c.line.isSome = true → run = .next (s.withCtl { c.taken with pass := slot false })) ∧
      (c.pass = none → c.line = none → run = .next (s.withCtl { c.taken with
        pass := slot true
        line := some { served := .pass, address := a.toNat, function := .readPoints, attempt := 1, period := .quiet
                       settings := { speed := c.settings.speed, quiet := c.settings.quiet, window := c.settings.window }
                       since := c.now, orphan := false } }))) ∧
    ∀ d r, districtOf a.toNat = some d → c.districts.get d = some r →
      let x := r.station
      let clear (y : Slot) : Slot := { y with overflow := false }
      exec (.clearStationMarks tag [a]) s = .next (s.withCtl ({ c with
        districts := c.districts.put d (some { r with station := { x with
          slot0 := clear x.slot0, slot1 := clear x.slot1, slot2 := clear x.slot2, slot3 := clear x.slot3 } }) }.answered
        0x25#8 tag .done (.marks x.slot0.overflow x.slot1.overflow x.slot2.overflow x.slot3.overflow)))) ∧
  ∀ (s : State) (e : Exchange) (p : PassSlot) (got : List Byte) (b : Byte), s.ctl.powered = true →
    s.ctl.line = some e → e.served = .pass → e.function = .readPoints → e.period = .window got →
    s.ctl.pass = some p → e.address < 256 →
    let ended (t : State) (r : Result) (x : ReplyContent) : Prop :=
      t.ctl.pass = none ∧ t.pending = s.pending ∧
      t.ctl.office.replies = s.ctl.office.replies ++ [{ kind := 0x26#8, tag := p.tag, result := r, content := x }] ∧
      t.ctl.acc = s.ctl.acc ∧ t.ctl.faults = s.ctl.faults ∧ t.ctl.seq = s.ctl.seq ∧
      ∀ d, (t.ctl.districts.get d).map (fun q => (q.prog, q.station.slot1, q.station.state)) =
        (s.ctl.districts.get d).map (fun q => (q.prog, q.station.slot1, q.station.state))
    (∀ n v x l : Nat, n < 16777216 → v < 65536 → x < 256 → l < 65536 →
      got ++ [b] = telemetryFrame e.address 1 (u24 n ++ u16 v ++ u8 x ++ u16 l) →
      ∃ t, exec (.telemetryByteReceived b) s = .next t ∧ ended t .done (.points n v x l e.attempt)) ∧
    (3 ≤ e.attempt → ∃ t, exec .replyWindowExpiry s = .next t ∧ ended t .silent (.failure (some .noReply)))

/-! ### Sizes and replies -/

/-- R14, R37, R64, R65, R91, R108, R125, R160, R174, R177, R178, R180: the notice queue and number, the reply list and
the outstanding requests, the order list, the ended list and the next number, the stores, the attempt, each
holder's discard run and check counters, and each district's ring, booster run and low count stay within their sizes: every
step keeps it. The reply list rests on the accounting of replies, which is a statement of its own. -/
def Obligations.SizesAreKept : Prop :=
  ∀ s t : State, s.ctl.bounded → s.ctl.repliesAccounted → step s = .next t → t.ctl.bounded

/-- R174 to R177: no request is answered twice or lost: every outstanding request has one reply in the list or on the line,
or is the store operation's, the pass-through's or the RESTART's in progress. -/
def Obligations.RepliesAreAccounted : Prop :=
  ∀ s t : State, s.ctl.repliesAccounted → step s = .next t → t.ctl.repliesAccounted

/-! ### Orders and their valves -/

/-- R20, R69, R70, R73 to R78, R81, R82: what the valves, the trips, the samples and the minutes of a holder make of the
orders. Where no ACTIVE order names the holder, nothing. For an order alone in the list: an awaited arrival makes its phase
step, or is kept pending while held; the failure of its valve ends it FAILED and a trip that strikes it ends it TRIP, held
or not, with the valve action of its kind and phase; and a CHANGEOVER or an ISOLATE ends TIMED OUT at its deadline and takes
of a sample the last stock alone (log 12). MINUTE_EVENT runs `ordersMinute` (the statement MinutesCloseThePeriods). The
ends of a FILL or DRAW by a sample and by its deadline are the statement FlowOrdersEnd. -/
def Obligations.OrdersFollowTheirValves : Prop :=
  (∀ (c : Ctl) (h : HolderId) (side : Side) (st : ValveState) (kind : TripKind) (g : Given), c.unengaged h →
    c.reportState h side st = c ∧ c.orderTrip h kind = c ∧ c.giveSample h g = c) ∧
  ∀ (c : Ctl) (o : Order) (h : HolderId) (side : Side) (st : ValveState), c.seq.orders = [o] → o.phase.isSome = true →
    let report := c.reportState h side st
    let kept (c' : Ctl) (o' : Order) : Ctl := { c' with seq := { c'.seq with orders := [o'] } }
    let own (x : Side) : Prop := o.holder = h ∧ side = x
    let new : Prop := o.second = some h ∧ side = .outlet
    let awaited : Prop :=
      (o.phase = some .openingInlet ∧ own .inlet ∧ st = .opened) ∨
      (o.phase = some .openingOutlet ∧ own .outlet ∧ st = .opened) ∨
      (o.phase = some .openingNew ∧ new ∧ st = .opened) ∨
      (o.phase = some .closingOld ∧ own .outlet ∧ st = .closed) ∨
      (o.phase = some .closing ∧ o.holder = h ∧ st = .closed)
    let fails : Prop := st = .stuck ∨ st = .disagree
    let filling : Prop := o.phase = some .openingInlet ∨ o.phase = some .runningFill
    let drawing : Prop := o.phase = some .openingOutlet ∨ o.phase = some .runningDraw
    let closingOldFails : Prop := o.phase = some .closingOld ∧ (own .outlet ∨ (new ∧ st = .disagree))
    let cause : EndCause := .valve h side st
    (¬ awaited → ¬ fails → report = c) ∧
    (awaited → c.seq.held = true → report = kept c { o with arrivalPending := true }) ∧
    (∀ r, awaited → c.seq.held = false → c.holders.get h = some r → (r.valve side).state = st →
      (o.phase = some .openingInlet → report = kept c { o with phase := some .runningFill }) ∧
      (o.phase = some .openingOutlet → report = kept c { o with phase := some .runningDraw }) ∧
      (∀ x, o.phase = some .openingNew → c.holders.get o.holder = some x →
        let c' := (c.orderCommand o.number o.holder .outlet .closed).1
        let o' : Order := { o with phase := some .closingOld }
        (x.outlet.state ≠ .closed → report = kept c' o') ∧
        (x.outlet.state = .closed → report = c'.orderLeft (o'.endsAs c .done .none))) ∧
      (o.phase = some .closingOld → report = c.orderLeft (o.endsAs c .done .none)) ∧
      (o.phase = some .closing →
        (r.inlet.state = .closed → r.outlet.state = .closed → report = c.orderLeft (o.endsAs c .done .none)) ∧
        (r.inlet.state ≠ .closed ∨ r.outlet.state ≠ .closed → report = c))) ∧
    (fails →
      (filling → own .inlet → o.kind = .fill → report = c.flowEnded o .failed cause) ∧
      (drawing → own .outlet → o.kind = .draw → report = c.flowEnded o .failed cause) ∧
      (o.phase = some .openingNew → new → report = c.changeoverEnded o h .failed cause) ∧
      (closingOldFails → report = c.orderLeft (o.endsAs c .failed cause)) ∧
      (o.phase = some .closing → o.holder = h → report = c.orderLeft (o.endsAs c .failed cause)) ∧
      (¬ (filling ∧ own .inlet) → ¬ (drawing ∧ own .outlet) → ¬ (o.phase = some .openingNew ∧ new) →
        ¬ closingOldFails → ¬ (o.phase = some .closing ∧ o.holder = h) → report = c)) ∧
    (∀ kind : TripKind,
      let strikes : Prop := o.names h = true ∧
        ((o.kind = .draw ∧ kind = .landing) ∨ (o.kind = .fill ∧ kind = .top) ∨
          (o.kind = .changeover ∧ kind = .landing ∧ (o.second = some h ∨ o.phase = some .openingNew)))
      (strikes → c.orderTrip h kind = c.orderLeft (o.endsAs c .trip (.trip h kind))) ∧
      (¬ strikes → c.orderTrip h kind = c)) ∧
    ((o.kind = .changeover ∨ o.kind = .isolate) →
      (∀ g : Given, o.names h = true → c.giveSample h g =
        { c with seq := { c.seq with lastStock := c.seq.lastStock.put h (some g.stock) } }) ∧
      let o' : Order := { o with minutesRun := o.minutesRun + 1 }
      (c.seq.held = true → c.ordersMinute = c) ∧
      (c.seq.held = false → o.minutesRun + 1 ≠ o.deadline → c.ordersMinute = kept c o') ∧
      (c.seq.held = false → o.minutesRun + 1 = o.deadline →
        (∀ b, o.kind = .changeover → o.phase = some .openingNew → o.second = some b →
          c.ordersMinute = (kept c o').changeoverEnded o' b .timedOut .none) ∧
        ((o.kind = .isolate ∨ o.phase ≠ some .openingNew) →
          c.ordersMinute = (kept c o').orderLeft (o'.endsAs c .timedOut .none))))
end

