-- ==== Sys2Proof/Laws/State.lean ====
section
/-! SUPPORT. What each update of the controller leaves of each field, so that no later proof unfolds a record update. -/

namespace Sys2Proof

/-! ### Records by index -/

@[simp] theorem PerHolder.get_put_self {α : Type} (p : PerHolder α) (h : HolderId) (a : α) : (p.put h a).get h = a := by
  cases h <;> rfl

@[simp] theorem PerHolder.get_put_of_ne {α : Type} (p : PerHolder α) {h i : HolderId} (a : α) (ne : i ≠ h) :
    (p.put h a).get i = p.get i := by
  cases h <;> cases i <;> first | rfl | exact absurd rfl ne

@[simp] theorem PerHolder.put_get {α : Type} (p : PerHolder α) (h : HolderId) : p.put h (p.get h) = p := by
  cases h <;> rfl

@[simp] theorem PerHolder.put_put {α : Type} (p : PerHolder α) (h : HolderId) (a b : α) :
    (p.put h a).put h b = p.put h b := by
  cases h <;> rfl

theorem PerHolder.ext_get {α : Type} {p q : PerHolder α} (eq : ∀ h, p.get h = q.get h) : p = q := by
  obtain ⟨a, b, c, d⟩ := p
  obtain ⟨e, f, g, k⟩ := q
  exact PerHolder.mk.injEq .. ▸ ⟨eq .h1, eq .h2, eq .h3, eq .h4⟩

@[simp] theorem PerDistrict.get_put_self {α : Type} (p : PerDistrict α) (d : DistrictId) (a : α) :
    (p.put d a).get d = a := by
  cases d <;> rfl

@[simp] theorem PerDistrict.get_put_of_ne {α : Type} (p : PerDistrict α) {d i : DistrictId} (a : α) (ne : i ≠ d) :
    (p.put d a).get i = p.get i := by
  cases d <;> cases i <;> first | rfl | exact absurd rfl ne

@[simp] theorem PerDistrict.put_get {α : Type} (p : PerDistrict α) (d : DistrictId) : p.put d (p.get d) = p := by
  cases d <;> rfl

@[simp] theorem PerDistrict.put_put {α : Type} (p : PerDistrict α) (d : DistrictId) (a b : α) :
    (p.put d a).put d b = p.put d b := by
  cases d <;> rfl

theorem PerDistrict.ext_get {α : Type} {p q : PerDistrict α} (eq : ∀ d, p.get d = q.get d) : p = q := by
  obtain ⟨a, b, c⟩ := p
  obtain ⟨e, f, g⟩ := q
  exact PerDistrict.mk.injEq .. ▸ ⟨eq .d1, eq .d2, eq .d3⟩

@[simp] theorem PerDistrict.get_each {α : Type} (p : PerDistrict (Option α)) (f : α → α) (d : DistrictId) :
    (p.each f).get d = (p.get d).map f := by
  cases d <;> rfl

namespace Machine

/-! ### The state -/

@[simp] theorem State.withCtl_pending (s : State) (c : Ctl) : (s.withCtl c).pending = s.pending := rfl
@[simp] theorem State.withCtl_ctl (s : State) (c : Ctl) : (s.withCtl c).ctl = c := rfl
@[simp] theorem State.withCtl_self (s : State) : s.withCtl s.ctl = s := rfl

/-! ### putHolder -/

@[simp] theorem Ctl.putHolder_powered (c : Ctl) (h : HolderId) (r : Option HolderRec) :
    (c.putHolder h r).powered = c.powered := rfl
@[simp] theorem Ctl.putHolder_clock (c : Ctl) (h : HolderId) (r : Option HolderRec) :
    (c.putHolder h r).clock = c.clock := rfl
@[simp] theorem Ctl.putHolder_now (c : Ctl) (h : HolderId) (r : Option HolderRec) :
    (c.putHolder h r).now = c.now := rfl
@[simp] theorem Ctl.putHolder_baro (c : Ctl) (h : HolderId) (r : Option HolderRec) :
    (c.putHolder h r).baro = c.baro := rfl
@[simp] theorem Ctl.putHolder_holders (c : Ctl) (h : HolderId) (r : Option HolderRec) :
    (c.putHolder h r).holders = c.holders.put h r := rfl
@[simp] theorem Ctl.putHolder_pins (c : Ctl) (h : HolderId) (r : Option HolderRec) :
    (c.putHolder h r).pins = c.pins := rfl
@[simp] theorem Ctl.putHolder_makeFlowing (c : Ctl) (h : HolderId) (r : Option HolderRec) :
    (c.putHolder h r).makeFlowing = c.makeFlowing := rfl
@[simp] theorem Ctl.putHolder_makeTimer (c : Ctl) (h : HolderId) (r : Option HolderRec) :
    (c.putHolder h r).makeTimer = c.makeTimer := rfl
@[simp] theorem Ctl.putHolder_relief (c : Ctl) (h : HolderId) (r : Option HolderRec) :
    (c.putHolder h r).relief = c.relief := rfl
@[simp] theorem Ctl.putHolder_seq (c : Ctl) (h : HolderId) (r : Option HolderRec) :
    (c.putHolder h r).seq = c.seq := rfl
@[simp] theorem Ctl.putHolder_districts (c : Ctl) (h : HolderId) (r : Option HolderRec) :
    (c.putHolder h r).districts = c.districts := rfl
@[simp] theorem Ctl.putHolder_line (c : Ctl) (h : HolderId) (r : Option HolderRec) :
    (c.putHolder h r).line = c.line := rfl
@[simp] theorem Ctl.putHolder_pass (c : Ctl) (h : HolderId) (r : Option HolderRec) :
    (c.putHolder h r).pass = c.pass := rfl
@[simp] theorem Ctl.putHolder_acc (c : Ctl) (h : HolderId) (r : Option HolderRec) :
    (c.putHolder h r).acc = c.acc := rfl
@[simp] theorem Ctl.putHolder_store (c : Ctl) (h : HolderId) (r : Option HolderRec) :
    (c.putHolder h r).store = c.store := rfl
@[simp] theorem Ctl.putHolder_identity (c : Ctl) (h : HolderId) (r : Option HolderRec) :
    (c.putHolder h r).identity = c.identity := rfl
@[simp] theorem Ctl.putHolder_yard (c : Ctl) (h : HolderId) (r : Option HolderRec) :
    (c.putHolder h r).yard = c.yard := rfl
@[simp] theorem Ctl.putHolder_faults (c : Ctl) (h : HolderId) (r : Option HolderRec) :
    (c.putHolder h r).faults = c.faults := rfl
@[simp] theorem Ctl.putHolder_office (c : Ctl) (h : HolderId) (r : Option HolderRec) :
    (c.putHolder h r).office = c.office := rfl

/-! ### modHolder -/

@[simp] theorem Ctl.modHolder_powered (c : Ctl) (h : HolderId) (f : HolderRec → HolderRec) :
    (c.modHolder h f).powered = c.powered := rfl
@[simp] theorem Ctl.modHolder_clock (c : Ctl) (h : HolderId) (f : HolderRec → HolderRec) :
    (c.modHolder h f).clock = c.clock := rfl
@[simp] theorem Ctl.modHolder_now (c : Ctl) (h : HolderId) (f : HolderRec → HolderRec) :
    (c.modHolder h f).now = c.now := rfl
@[simp] theorem Ctl.modHolder_baro (c : Ctl) (h : HolderId) (f : HolderRec → HolderRec) :
    (c.modHolder h f).baro = c.baro := rfl
@[simp] theorem Ctl.modHolder_holders (c : Ctl) (h : HolderId) (f : HolderRec → HolderRec) :
    (c.modHolder h f).holders = c.holders.put h ((c.holders.get h).map f) := rfl
@[simp] theorem Ctl.modHolder_pins (c : Ctl) (h : HolderId) (f : HolderRec → HolderRec) :
    (c.modHolder h f).pins = c.pins := rfl
@[simp] theorem Ctl.modHolder_makeFlowing (c : Ctl) (h : HolderId) (f : HolderRec → HolderRec) :
    (c.modHolder h f).makeFlowing = c.makeFlowing := rfl
@[simp] theorem Ctl.modHolder_makeTimer (c : Ctl) (h : HolderId) (f : HolderRec → HolderRec) :
    (c.modHolder h f).makeTimer = c.makeTimer := rfl
@[simp] theorem Ctl.modHolder_relief (c : Ctl) (h : HolderId) (f : HolderRec → HolderRec) :
    (c.modHolder h f).relief = c.relief := rfl
@[simp] theorem Ctl.modHolder_seq (c : Ctl) (h : HolderId) (f : HolderRec → HolderRec) :
    (c.modHolder h f).seq = c.seq := rfl
@[simp] theorem Ctl.modHolder_districts (c : Ctl) (h : HolderId) (f : HolderRec → HolderRec) :
    (c.modHolder h f).districts = c.districts := rfl
@[simp] theorem Ctl.modHolder_line (c : Ctl) (h : HolderId) (f : HolderRec → HolderRec) :
    (c.modHolder h f).line = c.line := rfl
@[simp] theorem Ctl.modHolder_pass (c : Ctl) (h : HolderId) (f : HolderRec → HolderRec) :
    (c.modHolder h f).pass = c.pass := rfl
@[simp] theorem Ctl.modHolder_acc (c : Ctl) (h : HolderId) (f : HolderRec → HolderRec) :
    (c.modHolder h f).acc = c.acc := rfl
@[simp] theorem Ctl.modHolder_store (c : Ctl) (h : HolderId) (f : HolderRec → HolderRec) :
    (c.modHolder h f).store = c.store := rfl
@[simp] theorem Ctl.modHolder_identity (c : Ctl) (h : HolderId) (f : HolderRec → HolderRec) :
    (c.modHolder h f).identity = c.identity := rfl
@[simp] theorem Ctl.modHolder_yard (c : Ctl) (h : HolderId) (f : HolderRec → HolderRec) :
    (c.modHolder h f).yard = c.yard := rfl
@[simp] theorem Ctl.modHolder_faults (c : Ctl) (h : HolderId) (f : HolderRec → HolderRec) :
    (c.modHolder h f).faults = c.faults := rfl
@[simp] theorem Ctl.modHolder_office (c : Ctl) (h : HolderId) (f : HolderRec → HolderRec) :
    (c.modHolder h f).office = c.office := rfl

/-! ### putDistrict -/

@[simp] theorem Ctl.putDistrict_powered (c : Ctl) (d : DistrictId) (r : Option DistrictRec) :
    (c.putDistrict d r).powered = c.powered := rfl
@[simp] theorem Ctl.putDistrict_clock (c : Ctl) (d : DistrictId) (r : Option DistrictRec) :
    (c.putDistrict d r).clock = c.clock := rfl
@[simp] theorem Ctl.putDistrict_now (c : Ctl) (d : DistrictId) (r : Option DistrictRec) :
    (c.putDistrict d r).now = c.now := rfl
@[simp] theorem Ctl.putDistrict_baro (c : Ctl) (d : DistrictId) (r : Option DistrictRec) :
    (c.putDistrict d r).baro = c.baro := rfl
@[simp] theorem Ctl.putDistrict_holders (c : Ctl) (d : DistrictId) (r : Option DistrictRec) :
    (c.putDistrict d r).holders = c.holders := rfl
@[simp] theorem Ctl.putDistrict_pins (c : Ctl) (d : DistrictId) (r : Option DistrictRec) :
    (c.putDistrict d r).pins = c.pins := rfl
@[simp] theorem Ctl.putDistrict_makeFlowing (c : Ctl) (d : DistrictId) (r : Option DistrictRec) :
    (c.putDistrict d r).makeFlowing = c.makeFlowing := rfl
@[simp] theorem Ctl.putDistrict_makeTimer (c : Ctl) (d : DistrictId) (r : Option DistrictRec) :
    (c.putDistrict d r).makeTimer = c.makeTimer := rfl
@[simp] theorem Ctl.putDistrict_relief (c : Ctl) (d : DistrictId) (r : Option DistrictRec) :
    (c.putDistrict d r).relief = c.relief := rfl
@[simp] theorem Ctl.putDistrict_seq (c : Ctl) (d : DistrictId) (r : Option DistrictRec) :
    (c.putDistrict d r).seq = c.seq := rfl
@[simp] theorem Ctl.putDistrict_districts (c : Ctl) (d : DistrictId) (r : Option DistrictRec) :
    (c.putDistrict d r).districts = c.districts.put d r := rfl
@[simp] theorem Ctl.putDistrict_line (c : Ctl) (d : DistrictId) (r : Option DistrictRec) :
    (c.putDistrict d r).line = c.line := rfl
@[simp] theorem Ctl.putDistrict_pass (c : Ctl) (d : DistrictId) (r : Option DistrictRec) :
    (c.putDistrict d r).pass = c.pass := rfl
@[simp] theorem Ctl.putDistrict_acc (c : Ctl) (d : DistrictId) (r : Option DistrictRec) :
    (c.putDistrict d r).acc = c.acc := rfl
@[simp] theorem Ctl.putDistrict_store (c : Ctl) (d : DistrictId) (r : Option DistrictRec) :
    (c.putDistrict d r).store = c.store := rfl
@[simp] theorem Ctl.putDistrict_identity (c : Ctl) (d : DistrictId) (r : Option DistrictRec) :
    (c.putDistrict d r).identity = c.identity := rfl
@[simp] theorem Ctl.putDistrict_yard (c : Ctl) (d : DistrictId) (r : Option DistrictRec) :
    (c.putDistrict d r).yard = c.yard := rfl
@[simp] theorem Ctl.putDistrict_faults (c : Ctl) (d : DistrictId) (r : Option DistrictRec) :
    (c.putDistrict d r).faults = c.faults := rfl
@[simp] theorem Ctl.putDistrict_office (c : Ctl) (d : DistrictId) (r : Option DistrictRec) :
    (c.putDistrict d r).office = c.office := rfl

/-! ### modDistrict -/

@[simp] theorem Ctl.modDistrict_powered (c : Ctl) (d : DistrictId) (f : DistrictRec → DistrictRec) :
    (c.modDistrict d f).powered = c.powered := rfl
@[simp] theorem Ctl.modDistrict_clock (c : Ctl) (d : DistrictId) (f : DistrictRec → DistrictRec) :
    (c.modDistrict d f).clock = c.clock := rfl
@[simp] theorem Ctl.modDistrict_now (c : Ctl) (d : DistrictId) (f : DistrictRec → DistrictRec) :
    (c.modDistrict d f).now = c.now := rfl
@[simp] theorem Ctl.modDistrict_baro (c : Ctl) (d : DistrictId) (f : DistrictRec → DistrictRec) :
    (c.modDistrict d f).baro = c.baro := rfl
@[simp] theorem Ctl.modDistrict_holders (c : Ctl) (d : DistrictId) (f : DistrictRec → DistrictRec) :
    (c.modDistrict d f).holders = c.holders := rfl
@[simp] theorem Ctl.modDistrict_pins (c : Ctl) (d : DistrictId) (f : DistrictRec → DistrictRec) :
    (c.modDistrict d f).pins = c.pins := rfl
@[simp] theorem Ctl.modDistrict_makeFlowing (c : Ctl) (d : DistrictId) (f : DistrictRec → DistrictRec) :
    (c.modDistrict d f).makeFlowing = c.makeFlowing := rfl
@[simp] theorem Ctl.modDistrict_makeTimer (c : Ctl) (d : DistrictId) (f : DistrictRec → DistrictRec) :
    (c.modDistrict d f).makeTimer = c.makeTimer := rfl
@[simp] theorem Ctl.modDistrict_relief (c : Ctl) (d : DistrictId) (f : DistrictRec → DistrictRec) :
    (c.modDistrict d f).relief = c.relief := rfl
@[simp] theorem Ctl.modDistrict_seq (c : Ctl) (d : DistrictId) (f : DistrictRec → DistrictRec) :
    (c.modDistrict d f).seq = c.seq := rfl
@[simp] theorem Ctl.modDistrict_districts (c : Ctl) (d : DistrictId) (f : DistrictRec → DistrictRec) :
    (c.modDistrict d f).districts = c.districts.put d ((c.districts.get d).map f) := rfl
@[simp] theorem Ctl.modDistrict_line (c : Ctl) (d : DistrictId) (f : DistrictRec → DistrictRec) :
    (c.modDistrict d f).line = c.line := rfl
@[simp] theorem Ctl.modDistrict_pass (c : Ctl) (d : DistrictId) (f : DistrictRec → DistrictRec) :
    (c.modDistrict d f).pass = c.pass := rfl
@[simp] theorem Ctl.modDistrict_acc (c : Ctl) (d : DistrictId) (f : DistrictRec → DistrictRec) :
    (c.modDistrict d f).acc = c.acc := rfl
@[simp] theorem Ctl.modDistrict_store (c : Ctl) (d : DistrictId) (f : DistrictRec → DistrictRec) :
    (c.modDistrict d f).store = c.store := rfl
@[simp] theorem Ctl.modDistrict_identity (c : Ctl) (d : DistrictId) (f : DistrictRec → DistrictRec) :
    (c.modDistrict d f).identity = c.identity := rfl
@[simp] theorem Ctl.modDistrict_yard (c : Ctl) (d : DistrictId) (f : DistrictRec → DistrictRec) :
    (c.modDistrict d f).yard = c.yard := rfl
@[simp] theorem Ctl.modDistrict_faults (c : Ctl) (d : DistrictId) (f : DistrictRec → DistrictRec) :
    (c.modDistrict d f).faults = c.faults := rfl
@[simp] theorem Ctl.modDistrict_office (c : Ctl) (d : DistrictId) (f : DistrictRec → DistrictRec) :
    (c.modDistrict d f).office = c.office := rfl

/-! ### modStation -/

@[simp] theorem Ctl.modStation_powered (c : Ctl) (d : DistrictId) (f : StationRec → StationRec) :
    (c.modStation d f).powered = c.powered := rfl
@[simp] theorem Ctl.modStation_clock (c : Ctl) (d : DistrictId) (f : StationRec → StationRec) :
    (c.modStation d f).clock = c.clock := rfl
@[simp] theorem Ctl.modStation_now (c : Ctl) (d : DistrictId) (f : StationRec → StationRec) :
    (c.modStation d f).now = c.now := rfl
@[simp] theorem Ctl.modStation_baro (c : Ctl) (d : DistrictId) (f : StationRec → StationRec) :
    (c.modStation d f).baro = c.baro := rfl
@[simp] theorem Ctl.modStation_holders (c : Ctl) (d : DistrictId) (f : StationRec → StationRec) :
    (c.modStation d f).holders = c.holders := rfl
@[simp] theorem Ctl.modStation_pins (c : Ctl) (d : DistrictId) (f : StationRec → StationRec) :
    (c.modStation d f).pins = c.pins := rfl
@[simp] theorem Ctl.modStation_makeFlowing (c : Ctl) (d : DistrictId) (f : StationRec → StationRec) :
    (c.modStation d f).makeFlowing = c.makeFlowing := rfl
@[simp] theorem Ctl.modStation_makeTimer (c : Ctl) (d : DistrictId) (f : StationRec → StationRec) :
    (c.modStation d f).makeTimer = c.makeTimer := rfl
@[simp] theorem Ctl.modStation_relief (c : Ctl) (d : DistrictId) (f : StationRec → StationRec) :
    (c.modStation d f).relief = c.relief := rfl
@[simp] theorem Ctl.modStation_seq (c : Ctl) (d : DistrictId) (f : StationRec → StationRec) :
    (c.modStation d f).seq = c.seq := rfl
@[simp] theorem Ctl.modStation_line (c : Ctl) (d : DistrictId) (f : StationRec → StationRec) :
    (c.modStation d f).line = c.line := rfl
@[simp] theorem Ctl.modStation_pass (c : Ctl) (d : DistrictId) (f : StationRec → StationRec) :
    (c.modStation d f).pass = c.pass := rfl
@[simp] theorem Ctl.modStation_acc (c : Ctl) (d : DistrictId) (f : StationRec → StationRec) :
    (c.modStation d f).acc = c.acc := rfl
@[simp] theorem Ctl.modStation_store (c : Ctl) (d : DistrictId) (f : StationRec → StationRec) :
    (c.modStation d f).store = c.store := rfl
@[simp] theorem Ctl.modStation_identity (c : Ctl) (d : DistrictId) (f : StationRec → StationRec) :
    (c.modStation d f).identity = c.identity := rfl
@[simp] theorem Ctl.modStation_yard (c : Ctl) (d : DistrictId) (f : StationRec → StationRec) :
    (c.modStation d f).yard = c.yard := rfl
@[simp] theorem Ctl.modStation_faults (c : Ctl) (d : DistrictId) (f : StationRec → StationRec) :
    (c.modStation d f).faults = c.faults := rfl
@[simp] theorem Ctl.modStation_office (c : Ctl) (d : DistrictId) (f : StationRec → StationRec) :
    (c.modStation d f).office = c.office := rfl

/-! ### modProg -/

@[simp] theorem Ctl.modProg_powered (c : Ctl) (d : DistrictId) (f : Programme → Programme) :
    (c.modProg d f).powered = c.powered := rfl
@[simp] theorem Ctl.modProg_clock (c : Ctl) (d : DistrictId) (f : Programme → Programme) :
    (c.modProg d f).clock = c.clock := rfl
@[simp] theorem Ctl.modProg_now (c : Ctl) (d : DistrictId) (f : Programme → Programme) :
    (c.modProg d f).now = c.now := rfl
@[simp] theorem Ctl.modProg_baro (c : Ctl) (d : DistrictId) (f : Programme → Programme) :
    (c.modProg d f).baro = c.baro := rfl
@[simp] theorem Ctl.modProg_holders (c : Ctl) (d : DistrictId) (f : Programme → Programme) :
    (c.modProg d f).holders = c.holders := rfl
@[simp] theorem Ctl.modProg_pins (c : Ctl) (d : DistrictId) (f : Programme → Programme) :
    (c.modProg d f).pins = c.pins := rfl
@[simp] theorem Ctl.modProg_makeFlowing (c : Ctl) (d : DistrictId) (f : Programme → Programme) :
    (c.modProg d f).makeFlowing = c.makeFlowing := rfl
@[simp] theorem Ctl.modProg_makeTimer (c : Ctl) (d : DistrictId) (f : Programme → Programme) :
    (c.modProg d f).makeTimer = c.makeTimer := rfl
@[simp] theorem Ctl.modProg_relief (c : Ctl) (d : DistrictId) (f : Programme → Programme) :
    (c.modProg d f).relief = c.relief := rfl
@[simp] theorem Ctl.modProg_seq (c : Ctl) (d : DistrictId) (f : Programme → Programme) :
    (c.modProg d f).seq = c.seq := rfl
@[simp] theorem Ctl.modProg_line (c : Ctl) (d : DistrictId) (f : Programme → Programme) :
    (c.modProg d f).line = c.line := rfl
@[simp] theorem Ctl.modProg_pass (c : Ctl) (d : DistrictId) (f : Programme → Programme) :
    (c.modProg d f).pass = c.pass := rfl
@[simp] theorem Ctl.modProg_acc (c : Ctl) (d : DistrictId) (f : Programme → Programme) :
    (c.modProg d f).acc = c.acc := rfl
@[simp] theorem Ctl.modProg_store (c : Ctl) (d : DistrictId) (f : Programme → Programme) :
    (c.modProg d f).store = c.store := rfl
@[simp] theorem Ctl.modProg_identity (c : Ctl) (d : DistrictId) (f : Programme → Programme) :
    (c.modProg d f).identity = c.identity := rfl
@[simp] theorem Ctl.modProg_yard (c : Ctl) (d : DistrictId) (f : Programme → Programme) :
    (c.modProg d f).yard = c.yard := rfl
@[simp] theorem Ctl.modProg_faults (c : Ctl) (d : DistrictId) (f : Programme → Programme) :
    (c.modProg d f).faults = c.faults := rfl
@[simp] theorem Ctl.modProg_office (c : Ctl) (d : DistrictId) (f : Programme → Programme) :
    (c.modProg d f).office = c.office := rfl

/-! ### raise -/

@[simp] theorem Ctl.raise_powered (c : Ctl) (f : FaultReport) : (c.raise f).powered = c.powered := rfl
@[simp] theorem Ctl.raise_clock (c : Ctl) (f : FaultReport) : (c.raise f).clock = c.clock := rfl
@[simp] theorem Ctl.raise_now (c : Ctl) (f : FaultReport) : (c.raise f).now = c.now := rfl
@[simp] theorem Ctl.raise_baro (c : Ctl) (f : FaultReport) : (c.raise f).baro = c.baro := rfl
@[simp] theorem Ctl.raise_holders (c : Ctl) (f : FaultReport) : (c.raise f).holders = c.holders := rfl
@[simp] theorem Ctl.raise_pins (c : Ctl) (f : FaultReport) : (c.raise f).pins = c.pins := rfl
@[simp] theorem Ctl.raise_makeFlowing (c : Ctl) (f : FaultReport) : (c.raise f).makeFlowing = c.makeFlowing := rfl
@[simp] theorem Ctl.raise_makeTimer (c : Ctl) (f : FaultReport) : (c.raise f).makeTimer = c.makeTimer := rfl
@[simp] theorem Ctl.raise_relief (c : Ctl) (f : FaultReport) : (c.raise f).relief = c.relief := rfl
@[simp] theorem Ctl.raise_seq (c : Ctl) (f : FaultReport) : (c.raise f).seq = c.seq := rfl
@[simp] theorem Ctl.raise_districts (c : Ctl) (f : FaultReport) : (c.raise f).districts = c.districts := rfl
@[simp] theorem Ctl.raise_line (c : Ctl) (f : FaultReport) : (c.raise f).line = c.line := rfl
@[simp] theorem Ctl.raise_pass (c : Ctl) (f : FaultReport) : (c.raise f).pass = c.pass := rfl
@[simp] theorem Ctl.raise_acc (c : Ctl) (f : FaultReport) : (c.raise f).acc = c.acc := rfl
@[simp] theorem Ctl.raise_store (c : Ctl) (f : FaultReport) : (c.raise f).store = c.store := rfl
@[simp] theorem Ctl.raise_identity (c : Ctl) (f : FaultReport) : (c.raise f).identity = c.identity := rfl
@[simp] theorem Ctl.raise_yard (c : Ctl) (f : FaultReport) : (c.raise f).yard = c.yard := rfl
@[simp] theorem Ctl.raise_faults (c : Ctl) (f : FaultReport) :
    (c.raise f).faults = { c.faults with handed := c.faults.handed ++ [f] } := rfl
@[simp] theorem Ctl.raise_office (c : Ctl) (f : FaultReport) : (c.raise f).office = c.office := rfl

/-! ### reply -/

@[simp] theorem Ctl.reply_powered (c : Ctl) (k g : Byte) (r : Result) (x : ReplyContent) :
    (c.reply k g r x).powered = c.powered := rfl
@[simp] theorem Ctl.reply_clock (c : Ctl) (k g : Byte) (r : Result) (x : ReplyContent) :
    (c.reply k g r x).clock = c.clock := rfl
@[simp] theorem Ctl.reply_now (c : Ctl) (k g : Byte) (r : Result) (x : ReplyContent) :
    (c.reply k g r x).now = c.now := rfl
@[simp] theorem Ctl.reply_baro (c : Ctl) (k g : Byte) (r : Result) (x : ReplyContent) :
    (c.reply k g r x).baro = c.baro := rfl
@[simp] theorem Ctl.reply_holders (c : Ctl) (k g : Byte) (r : Result) (x : ReplyContent) :
    (c.reply k g r x).holders = c.holders := rfl
@[simp] theorem Ctl.reply_pins (c : Ctl) (k g : Byte) (r : Result) (x : ReplyContent) :
    (c.reply k g r x).pins = c.pins := rfl
@[simp] theorem Ctl.reply_makeFlowing (c : Ctl) (k g : Byte) (r : Result) (x : ReplyContent) :
    (c.reply k g r x).makeFlowing = c.makeFlowing := rfl
@[simp] theorem Ctl.reply_makeTimer (c : Ctl) (k g : Byte) (r : Result) (x : ReplyContent) :
    (c.reply k g r x).makeTimer = c.makeTimer := rfl
@[simp] theorem Ctl.reply_relief (c : Ctl) (k g : Byte) (r : Result) (x : ReplyContent) :
    (c.reply k g r x).relief = c.relief := rfl
@[simp] theorem Ctl.reply_seq (c : Ctl) (k g : Byte) (r : Result) (x : ReplyContent) :
    (c.reply k g r x).seq = c.seq := rfl
@[simp] theorem Ctl.reply_districts (c : Ctl) (k g : Byte) (r : Result) (x : ReplyContent) :
    (c.reply k g r x).districts = c.districts := rfl
@[simp] theorem Ctl.reply_line (c : Ctl) (k g : Byte) (r : Result) (x : ReplyContent) :
    (c.reply k g r x).line = c.line := rfl
@[simp] theorem Ctl.reply_pass (c : Ctl) (k g : Byte) (r : Result) (x : ReplyContent) :
    (c.reply k g r x).pass = c.pass := rfl
@[simp] theorem Ctl.reply_acc (c : Ctl) (k g : Byte) (r : Result) (x : ReplyContent) :
    (c.reply k g r x).acc = c.acc := rfl
@[simp] theorem Ctl.reply_store (c : Ctl) (k g : Byte) (r : Result) (x : ReplyContent) :
    (c.reply k g r x).store = c.store := rfl
@[simp] theorem Ctl.reply_identity (c : Ctl) (k g : Byte) (r : Result) (x : ReplyContent) :
    (c.reply k g r x).identity = c.identity := rfl
@[simp] theorem Ctl.reply_yard (c : Ctl) (k g : Byte) (r : Result) (x : ReplyContent) :
    (c.reply k g r x).yard = c.yard := rfl
@[simp] theorem Ctl.reply_faults (c : Ctl) (k g : Byte) (r : Result) (x : ReplyContent) :
    (c.reply k g r x).faults = c.faults := rfl

/-! ### refuse -/

@[simp] theorem Ctl.refuse_powered (c : Ctl) (k g : Byte) (r : Result) : (c.refuse k g r).powered = c.powered := rfl
@[simp] theorem Ctl.refuse_clock (c : Ctl) (k g : Byte) (r : Result) : (c.refuse k g r).clock = c.clock := rfl
@[simp] theorem Ctl.refuse_now (c : Ctl) (k g : Byte) (r : Result) : (c.refuse k g r).now = c.now := rfl
@[simp] theorem Ctl.refuse_baro (c : Ctl) (k g : Byte) (r : Result) : (c.refuse k g r).baro = c.baro := rfl
@[simp] theorem Ctl.refuse_holders (c : Ctl) (k g : Byte) (r : Result) : (c.refuse k g r).holders = c.holders := rfl
@[simp] theorem Ctl.refuse_pins (c : Ctl) (k g : Byte) (r : Result) : (c.refuse k g r).pins = c.pins := rfl
@[simp] theorem Ctl.refuse_makeFlowing (c : Ctl) (k g : Byte) (r : Result) :
    (c.refuse k g r).makeFlowing = c.makeFlowing := rfl
@[simp] theorem Ctl.refuse_makeTimer (c : Ctl) (k g : Byte) (r : Result) :
    (c.refuse k g r).makeTimer = c.makeTimer := rfl
@[simp] theorem Ctl.refuse_relief (c : Ctl) (k g : Byte) (r : Result) : (c.refuse k g r).relief = c.relief := rfl
@[simp] theorem Ctl.refuse_seq (c : Ctl) (k g : Byte) (r : Result) : (c.refuse k g r).seq = c.seq := rfl
@[simp] theorem Ctl.refuse_districts (c : Ctl) (k g : Byte) (r : Result) :
    (c.refuse k g r).districts = c.districts := rfl
@[simp] theorem Ctl.refuse_line (c : Ctl) (k g : Byte) (r : Result) : (c.refuse k g r).line = c.line := rfl
@[simp] theorem Ctl.refuse_pass (c : Ctl) (k g : Byte) (r : Result) : (c.refuse k g r).pass = c.pass := rfl
@[simp] theorem Ctl.refuse_acc (c : Ctl) (k g : Byte) (r : Result) : (c.refuse k g r).acc = c.acc := rfl
@[simp] theorem Ctl.refuse_store (c : Ctl) (k g : Byte) (r : Result) : (c.refuse k g r).store = c.store := rfl
@[simp] theorem Ctl.refuse_identity (c : Ctl) (k g : Byte) (r : Result) :
    (c.refuse k g r).identity = c.identity := rfl
@[simp] theorem Ctl.refuse_yard (c : Ctl) (k g : Byte) (r : Result) : (c.refuse k g r).yard = c.yard := rfl
@[simp] theorem Ctl.refuse_faults (c : Ctl) (k g : Byte) (r : Result) : (c.refuse k g r).faults = c.faults := rfl

/-! ### beginStore -/

@[simp] theorem Ctl.beginStore_powered (c : Ctl) (k g : Byte) (w : StoreWork) :
    (c.beginStore k g w).powered = c.powered := rfl
@[simp] theorem Ctl.beginStore_clock (c : Ctl) (k g : Byte) (w : StoreWork) :
    (c.beginStore k g w).clock = c.clock := rfl
@[simp] theorem Ctl.beginStore_now (c : Ctl) (k g : Byte) (w : StoreWork) : (c.beginStore k g w).now = c.now := rfl
@[simp] theorem Ctl.beginStore_baro (c : Ctl) (k g : Byte) (w : StoreWork) : (c.beginStore k g w).baro = c.baro := rfl
@[simp] theorem Ctl.beginStore_holders (c : Ctl) (k g : Byte) (w : StoreWork) :
    (c.beginStore k g w).holders = c.holders := rfl
@[simp] theorem Ctl.beginStore_pins (c : Ctl) (k g : Byte) (w : StoreWork) : (c.beginStore k g w).pins = c.pins := rfl
@[simp] theorem Ctl.beginStore_makeFlowing (c : Ctl) (k g : Byte) (w : StoreWork) :
    (c.beginStore k g w).makeFlowing = c.makeFlowing := rfl
@[simp] theorem Ctl.beginStore_makeTimer (c : Ctl) (k g : Byte) (w : StoreWork) :
    (c.beginStore k g w).makeTimer = c.makeTimer := rfl
@[simp] theorem Ctl.beginStore_relief (c : Ctl) (k g : Byte) (w : StoreWork) :
    (c.beginStore k g w).relief = c.relief := rfl
@[simp] theorem Ctl.beginStore_seq (c : Ctl) (k g : Byte) (w : StoreWork) : (c.beginStore k g w).seq = c.seq := rfl
@[simp] theorem Ctl.beginStore_districts (c : Ctl) (k g : Byte) (w : StoreWork) :
    (c.beginStore k g w).districts = c.districts := rfl
@[simp] theorem Ctl.beginStore_line (c : Ctl) (k g : Byte) (w : StoreWork) : (c.beginStore k g w).line = c.line := rfl
@[simp] theorem Ctl.beginStore_pass (c : Ctl) (k g : Byte) (w : StoreWork) : (c.beginStore k g w).pass = c.pass := rfl
@[simp] theorem Ctl.beginStore_acc (c : Ctl) (k g : Byte) (w : StoreWork) : (c.beginStore k g w).acc = c.acc := rfl
@[simp] theorem Ctl.beginStore_identity (c : Ctl) (k g : Byte) (w : StoreWork) :
    (c.beginStore k g w).identity = c.identity := rfl
@[simp] theorem Ctl.beginStore_yard (c : Ctl) (k g : Byte) (w : StoreWork) : (c.beginStore k g w).yard = c.yard := rfl
@[simp] theorem Ctl.beginStore_faults (c : Ctl) (k g : Byte) (w : StoreWork) :
    (c.beginStore k g w).faults = c.faults := rfl
@[simp] theorem Ctl.beginStore_office (c : Ctl) (k g : Byte) (w : StoreWork) :
    (c.beginStore k g w).office = c.office := rfl

/-! ### setPin -/

@[simp] theorem Ctl.setPin_powered (c : Ctl) (h : HolderId) (x : Side) (w : Switch) (m : Bool) :
    (c.setPin h x w m).powered = c.powered := rfl
@[simp] theorem Ctl.setPin_clock (c : Ctl) (h : HolderId) (x : Side) (w : Switch) (m : Bool) :
    (c.setPin h x w m).clock = c.clock := rfl
@[simp] theorem Ctl.setPin_now (c : Ctl) (h : HolderId) (x : Side) (w : Switch) (m : Bool) :
    (c.setPin h x w m).now = c.now := rfl
@[simp] theorem Ctl.setPin_baro (c : Ctl) (h : HolderId) (x : Side) (w : Switch) (m : Bool) :
    (c.setPin h x w m).baro = c.baro := rfl
@[simp] theorem Ctl.setPin_holders (c : Ctl) (h : HolderId) (x : Side) (w : Switch) (m : Bool) :
    (c.setPin h x w m).holders = c.holders := rfl
@[simp] theorem Ctl.setPin_makeFlowing (c : Ctl) (h : HolderId) (x : Side) (w : Switch) (m : Bool) :
    (c.setPin h x w m).makeFlowing = c.makeFlowing := rfl
@[simp] theorem Ctl.setPin_makeTimer (c : Ctl) (h : HolderId) (x : Side) (w : Switch) (m : Bool) :
    (c.setPin h x w m).makeTimer = c.makeTimer := rfl
@[simp] theorem Ctl.setPin_relief (c : Ctl) (h : HolderId) (x : Side) (w : Switch) (m : Bool) :
    (c.setPin h x w m).relief = c.relief := rfl
@[simp] theorem Ctl.setPin_seq (c : Ctl) (h : HolderId) (x : Side) (w : Switch) (m : Bool) :
    (c.setPin h x w m).seq = c.seq := rfl
@[simp] theorem Ctl.setPin_districts (c : Ctl) (h : HolderId) (x : Side) (w : Switch) (m : Bool) :
    (c.setPin h x w m).districts = c.districts := rfl
@[simp] theorem Ctl.setPin_line (c : Ctl) (h : HolderId) (x : Side) (w : Switch) (m : Bool) :
    (c.setPin h x w m).line = c.line := rfl
@[simp] theorem Ctl.setPin_pass (c : Ctl) (h : HolderId) (x : Side) (w : Switch) (m : Bool) :
    (c.setPin h x w m).pass = c.pass := rfl
@[simp] theorem Ctl.setPin_acc (c : Ctl) (h : HolderId) (x : Side) (w : Switch) (m : Bool) :
    (c.setPin h x w m).acc = c.acc := rfl
@[simp] theorem Ctl.setPin_store (c : Ctl) (h : HolderId) (x : Side) (w : Switch) (m : Bool) :
    (c.setPin h x w m).store = c.store := rfl
@[simp] theorem Ctl.setPin_identity (c : Ctl) (h : HolderId) (x : Side) (w : Switch) (m : Bool) :
    (c.setPin h x w m).identity = c.identity := rfl
@[simp] theorem Ctl.setPin_yard (c : Ctl) (h : HolderId) (x : Side) (w : Switch) (m : Bool) :
    (c.setPin h x w m).yard = c.yard := rfl
@[simp] theorem Ctl.setPin_faults (c : Ctl) (h : HolderId) (x : Side) (w : Switch) (m : Bool) :
    (c.setPin h x w m).faults = c.faults := rfl
@[simp] theorem Ctl.setPin_office (c : Ctl) (h : HolderId) (x : Side) (w : Switch) (m : Bool) :
    (c.setPin h x w m).office = c.office := rfl

/-! ### modOrder -/

@[simp] theorem Ctl.modOrder_powered (c : Ctl) (n : Nat) (f : Order → Order) :
    (c.modOrder n f).powered = c.powered := rfl
@[simp] theorem Ctl.modOrder_clock (c : Ctl) (n : Nat) (f : Order → Order) : (c.modOrder n f).clock = c.clock := rfl
@[simp] theorem Ctl.modOrder_now (c : Ctl) (n : Nat) (f : Order → Order) : (c.modOrder n f).now = c.now := rfl
@[simp] theorem Ctl.modOrder_baro (c : Ctl) (n : Nat) (f : Order → Order) : (c.modOrder n f).baro = c.baro := rfl
@[simp] theorem Ctl.modOrder_holders (c : Ctl) (n : Nat) (f : Order → Order) :
    (c.modOrder n f).holders = c.holders := rfl
@[simp] theorem Ctl.modOrder_pins (c : Ctl) (n : Nat) (f : Order → Order) : (c.modOrder n f).pins = c.pins := rfl
@[simp] theorem Ctl.modOrder_makeFlowing (c : Ctl) (n : Nat) (f : Order → Order) :
    (c.modOrder n f).makeFlowing = c.makeFlowing := rfl
@[simp] theorem Ctl.modOrder_makeTimer (c : Ctl) (n : Nat) (f : Order → Order) :
    (c.modOrder n f).makeTimer = c.makeTimer := rfl
@[simp] theorem Ctl.modOrder_relief (c : Ctl) (n : Nat) (f : Order → Order) :
    (c.modOrder n f).relief = c.relief := rfl
@[simp] theorem Ctl.modOrder_districts (c : Ctl) (n : Nat) (f : Order → Order) :
    (c.modOrder n f).districts = c.districts := rfl
@[simp] theorem Ctl.modOrder_line (c : Ctl) (n : Nat) (f : Order → Order) : (c.modOrder n f).line = c.line := rfl
@[simp] theorem Ctl.modOrder_pass (c : Ctl) (n : Nat) (f : Order → Order) : (c.modOrder n f).pass = c.pass := rfl
@[simp] theorem Ctl.modOrder_acc (c : Ctl) (n : Nat) (f : Order → Order) : (c.modOrder n f).acc = c.acc := rfl
@[simp] theorem Ctl.modOrder_store (c : Ctl) (n : Nat) (f : Order → Order) : (c.modOrder n f).store = c.store := rfl
@[simp] theorem Ctl.modOrder_identity (c : Ctl) (n : Nat) (f : Order → Order) :
    (c.modOrder n f).identity = c.identity := rfl
@[simp] theorem Ctl.modOrder_yard (c : Ctl) (n : Nat) (f : Order → Order) : (c.modOrder n f).yard = c.yard := rfl
@[simp] theorem Ctl.modOrder_faults (c : Ctl) (n : Nat) (f : Order → Order) :
    (c.modOrder n f).faults = c.faults := rfl
@[simp] theorem Ctl.modOrder_office (c : Ctl) (n : Nat) (f : Order → Order) :
    (c.modOrder n f).office = c.office := rfl

/-! ### setPhase -/

@[simp] theorem Ctl.setPhase_powered (c : Ctl) (n : Nat) (p : Phase) : (c.setPhase n p).powered = c.powered := rfl
@[simp] theorem Ctl.setPhase_clock (c : Ctl) (n : Nat) (p : Phase) : (c.setPhase n p).clock = c.clock := rfl
@[simp] theorem Ctl.setPhase_now (c : Ctl) (n : Nat) (p : Phase) : (c.setPhase n p).now = c.now := rfl
@[simp] theorem Ctl.setPhase_baro (c : Ctl) (n : Nat) (p : Phase) : (c.setPhase n p).baro = c.baro := rfl
@[simp] theorem Ctl.setPhase_holders (c : Ctl) (n : Nat) (p : Phase) : (c.setPhase n p).holders = c.holders := rfl
@[simp] theorem Ctl.setPhase_pins (c : Ctl) (n : Nat) (p : Phase) : (c.setPhase n p).pins = c.pins := rfl
@[simp] theorem Ctl.setPhase_makeFlowing (c : Ctl) (n : Nat) (p : Phase) :
    (c.setPhase n p).makeFlowing = c.makeFlowing := rfl
@[simp] theorem Ctl.setPhase_makeTimer (c : Ctl) (n : Nat) (p : Phase) :
    (c.setPhase n p).makeTimer = c.makeTimer := rfl
@[simp] theorem Ctl.setPhase_relief (c : Ctl) (n : Nat) (p : Phase) : (c.setPhase n p).relief = c.relief := rfl
@[simp] theorem Ctl.setPhase_districts (c : Ctl) (n : Nat) (p : Phase) :
    (c.setPhase n p).districts = c.districts := rfl
@[simp] theorem Ctl.setPhase_line (c : Ctl) (n : Nat) (p : Phase) : (c.setPhase n p).line = c.line := rfl
@[simp] theorem Ctl.setPhase_pass (c : Ctl) (n : Nat) (p : Phase) : (c.setPhase n p).pass = c.pass := rfl
@[simp] theorem Ctl.setPhase_acc (c : Ctl) (n : Nat) (p : Phase) : (c.setPhase n p).acc = c.acc := rfl
@[simp] theorem Ctl.setPhase_store (c : Ctl) (n : Nat) (p : Phase) : (c.setPhase n p).store = c.store := rfl
@[simp] theorem Ctl.setPhase_identity (c : Ctl) (n : Nat) (p : Phase) : (c.setPhase n p).identity = c.identity := rfl
@[simp] theorem Ctl.setPhase_yard (c : Ctl) (n : Nat) (p : Phase) : (c.setPhase n p).yard = c.yard := rfl
@[simp] theorem Ctl.setPhase_faults (c : Ctl) (n : Nat) (p : Phase) : (c.setPhase n p).faults = c.faults := rfl
@[simp] theorem Ctl.setPhase_office (c : Ctl) (n : Nat) (p : Phase) : (c.setPhase n p).office = c.office := rfl

/-! ### setTime -/

@[simp] theorem Ctl.setTime_powered (c : Ctl) (m k : Nat) : (c.setTime m k).powered = c.powered := rfl
@[simp] theorem Ctl.setTime_clock (c : Ctl) (m k : Nat) :
    (c.setTime m k).clock = { minute := m, second := k, isSet := true } := rfl
@[simp] theorem Ctl.setTime_now (c : Ctl) (m k : Nat) : (c.setTime m k).now = c.now := rfl
@[simp] theorem Ctl.setTime_baro (c : Ctl) (m k : Nat) : (c.setTime m k).baro = c.baro := rfl
@[simp] theorem Ctl.setTime_holders (c : Ctl) (m k : Nat) : (c.setTime m k).holders = c.holders := rfl
@[simp] theorem Ctl.setTime_pins (c : Ctl) (m k : Nat) : (c.setTime m k).pins = c.pins := rfl
@[simp] theorem Ctl.setTime_makeFlowing (c : Ctl) (m k : Nat) : (c.setTime m k).makeFlowing = c.makeFlowing := rfl
@[simp] theorem Ctl.setTime_makeTimer (c : Ctl) (m k : Nat) : (c.setTime m k).makeTimer = c.makeTimer := rfl
@[simp] theorem Ctl.setTime_relief (c : Ctl) (m k : Nat) : (c.setTime m k).relief = c.relief := rfl
@[simp] theorem Ctl.setTime_seq (c : Ctl) (m k : Nat) : (c.setTime m k).seq = c.seq := rfl
@[simp] theorem Ctl.setTime_districts (c : Ctl) (m k : Nat) : (c.setTime m k).districts = c.districts := rfl
@[simp] theorem Ctl.setTime_line (c : Ctl) (m k : Nat) : (c.setTime m k).line = c.line := rfl
@[simp] theorem Ctl.setTime_pass (c : Ctl) (m k : Nat) : (c.setTime m k).pass = c.pass := rfl
@[simp] theorem Ctl.setTime_acc (c : Ctl) (m k : Nat) : (c.setTime m k).acc = c.acc := rfl
@[simp] theorem Ctl.setTime_store (c : Ctl) (m k : Nat) : (c.setTime m k).store = c.store := rfl
@[simp] theorem Ctl.setTime_identity (c : Ctl) (m k : Nat) : (c.setTime m k).identity = c.identity := rfl
@[simp] theorem Ctl.setTime_yard (c : Ctl) (m k : Nat) : (c.setTime m k).yard = c.yard := rfl
@[simp] theorem Ctl.setTime_faults (c : Ctl) (m k : Nat) : (c.setTime m k).faults = c.faults := rfl
@[simp] theorem Ctl.setTime_office (c : Ctl) (m k : Nat) : (c.setTime m k).office = c.office := rfl

/-! ### minutePasses -/

@[simp] theorem Ctl.minutePasses_powered (c : Ctl) : (c.minutePasses).powered = c.powered := rfl
@[simp] theorem Ctl.minutePasses_now (c : Ctl) : (c.minutePasses).now = c.now := rfl
@[simp] theorem Ctl.minutePasses_baro (c : Ctl) : (c.minutePasses).baro = c.baro := rfl
@[simp] theorem Ctl.minutePasses_holders (c : Ctl) : (c.minutePasses).holders = c.holders := rfl
@[simp] theorem Ctl.minutePasses_pins (c : Ctl) : (c.minutePasses).pins = c.pins := rfl
@[simp] theorem Ctl.minutePasses_makeFlowing (c : Ctl) : (c.minutePasses).makeFlowing = c.makeFlowing := rfl
@[simp] theorem Ctl.minutePasses_makeTimer (c : Ctl) : (c.minutePasses).makeTimer = c.makeTimer := rfl
@[simp] theorem Ctl.minutePasses_relief (c : Ctl) : (c.minutePasses).relief = c.relief := rfl
@[simp] theorem Ctl.minutePasses_seq (c : Ctl) : (c.minutePasses).seq = c.seq := rfl
@[simp] theorem Ctl.minutePasses_districts (c : Ctl) : (c.minutePasses).districts = c.districts := rfl
@[simp] theorem Ctl.minutePasses_line (c : Ctl) : (c.minutePasses).line = c.line := rfl
@[simp] theorem Ctl.minutePasses_pass (c : Ctl) : (c.minutePasses).pass = c.pass := rfl
@[simp] theorem Ctl.minutePasses_acc (c : Ctl) : (c.minutePasses).acc = c.acc := rfl
@[simp] theorem Ctl.minutePasses_store (c : Ctl) : (c.minutePasses).store = c.store := rfl
@[simp] theorem Ctl.minutePasses_identity (c : Ctl) : (c.minutePasses).identity = c.identity := rfl
@[simp] theorem Ctl.minutePasses_yard (c : Ctl) : (c.minutePasses).yard = c.yard := rfl
@[simp] theorem Ctl.minutePasses_faults (c : Ctl) : (c.minutePasses).faults = c.faults := rfl
@[simp] theorem Ctl.minutePasses_office (c : Ctl) : (c.minutePasses).office = c.office := rfl

/-! ### takeDayStart -/

@[simp] theorem Ctl.takeDayStart_powered (c : Ctl) : (c.takeDayStart).powered = c.powered := rfl
@[simp] theorem Ctl.takeDayStart_clock (c : Ctl) : (c.takeDayStart).clock = c.clock := rfl
@[simp] theorem Ctl.takeDayStart_now (c : Ctl) : (c.takeDayStart).now = c.now := rfl
@[simp] theorem Ctl.takeDayStart_baro (c : Ctl) : (c.takeDayStart).baro = c.baro := rfl
@[simp] theorem Ctl.takeDayStart_holders (c : Ctl) : (c.takeDayStart).holders = c.holders := rfl
@[simp] theorem Ctl.takeDayStart_pins (c : Ctl) : (c.takeDayStart).pins = c.pins := rfl
@[simp] theorem Ctl.takeDayStart_makeFlowing (c : Ctl) : (c.takeDayStart).makeFlowing = c.makeFlowing := rfl
@[simp] theorem Ctl.takeDayStart_makeTimer (c : Ctl) : (c.takeDayStart).makeTimer = c.makeTimer := rfl
@[simp] theorem Ctl.takeDayStart_relief (c : Ctl) : (c.takeDayStart).relief = c.relief := rfl
@[simp] theorem Ctl.takeDayStart_seq (c : Ctl) : (c.takeDayStart).seq = c.seq := rfl
@[simp] theorem Ctl.takeDayStart_districts (c : Ctl) : (c.takeDayStart).districts = c.districts := rfl
@[simp] theorem Ctl.takeDayStart_line (c : Ctl) : (c.takeDayStart).line = c.line := rfl
@[simp] theorem Ctl.takeDayStart_pass (c : Ctl) : (c.takeDayStart).pass = c.pass := rfl
@[simp] theorem Ctl.takeDayStart_store (c : Ctl) : (c.takeDayStart).store = c.store := rfl
@[simp] theorem Ctl.takeDayStart_identity (c : Ctl) : (c.takeDayStart).identity = c.identity := rfl
@[simp] theorem Ctl.takeDayStart_yard (c : Ctl) : (c.takeDayStart).yard = c.yard := rfl
@[simp] theorem Ctl.takeDayStart_faults (c : Ctl) : (c.takeDayStart).faults = c.faults := rfl
@[simp] theorem Ctl.takeDayStart_office (c : Ctl) : (c.takeDayStart).office = c.office := rfl
@[simp] theorem Ctl.takeDayStart_acc (c : Ctl) :
    (c.takeDayStart).acc = { c.acc with dayStart := c.settings.dayStart } := rfl
@[simp] theorem Ctl.takeDayStart_settings (c : Ctl) : (c.takeDayStart).settings = c.settings := rfl

/-! ### noteStock -/

@[simp] theorem Ctl.noteStock_powered (c : Ctl) (h : HolderId) (n : Nat) : (c.noteStock h n).powered = c.powered := rfl
@[simp] theorem Ctl.noteStock_clock (c : Ctl) (h : HolderId) (n : Nat) : (c.noteStock h n).clock = c.clock := rfl
@[simp] theorem Ctl.noteStock_now (c : Ctl) (h : HolderId) (n : Nat) : (c.noteStock h n).now = c.now := rfl
@[simp] theorem Ctl.noteStock_baro (c : Ctl) (h : HolderId) (n : Nat) : (c.noteStock h n).baro = c.baro := rfl
@[simp] theorem Ctl.noteStock_holders (c : Ctl) (h : HolderId) (n : Nat) : (c.noteStock h n).holders = c.holders := rfl
@[simp] theorem Ctl.noteStock_pins (c : Ctl) (h : HolderId) (n : Nat) : (c.noteStock h n).pins = c.pins := rfl
@[simp] theorem Ctl.noteStock_makeFlowing (c : Ctl) (h : HolderId) (n : Nat) : (c.noteStock h n).makeFlowing = c.makeFlowing := rfl
@[simp] theorem Ctl.noteStock_makeTimer (c : Ctl) (h : HolderId) (n : Nat) : (c.noteStock h n).makeTimer = c.makeTimer := rfl
@[simp] theorem Ctl.noteStock_relief (c : Ctl) (h : HolderId) (n : Nat) : (c.noteStock h n).relief = c.relief := rfl
@[simp] theorem Ctl.noteStock_districts (c : Ctl) (h : HolderId) (n : Nat) : (c.noteStock h n).districts = c.districts := rfl
@[simp] theorem Ctl.noteStock_line (c : Ctl) (h : HolderId) (n : Nat) : (c.noteStock h n).line = c.line := rfl
@[simp] theorem Ctl.noteStock_pass (c : Ctl) (h : HolderId) (n : Nat) : (c.noteStock h n).pass = c.pass := rfl
@[simp] theorem Ctl.noteStock_acc (c : Ctl) (h : HolderId) (n : Nat) : (c.noteStock h n).acc = c.acc := rfl
@[simp] theorem Ctl.noteStock_store (c : Ctl) (h : HolderId) (n : Nat) : (c.noteStock h n).store = c.store := rfl
@[simp] theorem Ctl.noteStock_identity (c : Ctl) (h : HolderId) (n : Nat) : (c.noteStock h n).identity = c.identity := rfl
@[simp] theorem Ctl.noteStock_yard (c : Ctl) (h : HolderId) (n : Nat) : (c.noteStock h n).yard = c.yard := rfl
@[simp] theorem Ctl.noteStock_faults (c : Ctl) (h : HolderId) (n : Nat) : (c.noteStock h n).faults = c.faults := rfl
@[simp] theorem Ctl.noteStock_office (c : Ctl) (h : HolderId) (n : Nat) : (c.noteStock h n).office = c.office := rfl
@[simp] theorem Ctl.noteStock_seq (c : Ctl) (h : HolderId) (n : Nat) :
    (c.noteStock h n).seq = { c.seq with lastStock := c.seq.lastStock.put h (some n) } := rfl

/-! ### countDurations -/

@[simp] theorem Ctl.countDurations_powered (c : Ctl) : (c.countDurations).powered = c.powered := rfl
@[simp] theorem Ctl.countDurations_clock (c : Ctl) : (c.countDurations).clock = c.clock := rfl
@[simp] theorem Ctl.countDurations_now (c : Ctl) : (c.countDurations).now = c.now := rfl
@[simp] theorem Ctl.countDurations_baro (c : Ctl) : (c.countDurations).baro = c.baro := rfl
@[simp] theorem Ctl.countDurations_holders (c : Ctl) : (c.countDurations).holders = c.holders := rfl
@[simp] theorem Ctl.countDurations_pins (c : Ctl) : (c.countDurations).pins = c.pins := rfl
@[simp] theorem Ctl.countDurations_makeFlowing (c : Ctl) : (c.countDurations).makeFlowing = c.makeFlowing := rfl
@[simp] theorem Ctl.countDurations_makeTimer (c : Ctl) : (c.countDurations).makeTimer = c.makeTimer := rfl
@[simp] theorem Ctl.countDurations_relief (c : Ctl) : (c.countDurations).relief = c.relief := rfl
@[simp] theorem Ctl.countDurations_seq (c : Ctl) : (c.countDurations).seq = c.seq := rfl
@[simp] theorem Ctl.countDurations_districts (c : Ctl) : (c.countDurations).districts = c.districts := rfl
@[simp] theorem Ctl.countDurations_line (c : Ctl) : (c.countDurations).line = c.line := rfl
@[simp] theorem Ctl.countDurations_pass (c : Ctl) : (c.countDurations).pass = c.pass := rfl
@[simp] theorem Ctl.countDurations_store (c : Ctl) : (c.countDurations).store = c.store := rfl
@[simp] theorem Ctl.countDurations_identity (c : Ctl) : (c.countDurations).identity = c.identity := rfl
@[simp] theorem Ctl.countDurations_yard (c : Ctl) : (c.countDurations).yard = c.yard := rfl
@[simp] theorem Ctl.countDurations_faults (c : Ctl) : (c.countDurations).faults = c.faults := rfl
@[simp] theorem Ctl.countDurations_office (c : Ctl) : (c.countDurations).office = c.office := rfl

/-! ### countMake -/

@[simp] theorem Ctl.countMake_powered (c : Ctl) : (c.countMake).powered = c.powered := rfl
@[simp] theorem Ctl.countMake_clock (c : Ctl) : (c.countMake).clock = c.clock := rfl
@[simp] theorem Ctl.countMake_now (c : Ctl) : (c.countMake).now = c.now := rfl
@[simp] theorem Ctl.countMake_baro (c : Ctl) : (c.countMake).baro = c.baro := rfl
@[simp] theorem Ctl.countMake_holders (c : Ctl) : (c.countMake).holders = c.holders := rfl
@[simp] theorem Ctl.countMake_pins (c : Ctl) : (c.countMake).pins = c.pins := rfl
@[simp] theorem Ctl.countMake_makeFlowing (c : Ctl) : (c.countMake).makeFlowing = c.makeFlowing := rfl
@[simp] theorem Ctl.countMake_makeTimer (c : Ctl) : (c.countMake).makeTimer = c.makeTimer := rfl
@[simp] theorem Ctl.countMake_relief (c : Ctl) : (c.countMake).relief = c.relief := rfl
@[simp] theorem Ctl.countMake_seq (c : Ctl) : (c.countMake).seq = c.seq := rfl
@[simp] theorem Ctl.countMake_districts (c : Ctl) : (c.countMake).districts = c.districts := rfl
@[simp] theorem Ctl.countMake_line (c : Ctl) : (c.countMake).line = c.line := rfl
@[simp] theorem Ctl.countMake_pass (c : Ctl) : (c.countMake).pass = c.pass := rfl
@[simp] theorem Ctl.countMake_store (c : Ctl) : (c.countMake).store = c.store := rfl
@[simp] theorem Ctl.countMake_identity (c : Ctl) : (c.countMake).identity = c.identity := rfl
@[simp] theorem Ctl.countMake_yard (c : Ctl) : (c.countMake).yard = c.yard := rfl
@[simp] theorem Ctl.countMake_faults (c : Ctl) : (c.countMake).faults = c.faults := rfl
@[simp] theorem Ctl.countMake_office (c : Ctl) : (c.countMake).office = c.office := rfl

/-! ### clearBaseline -/

@[simp] theorem Ctl.clearBaseline_powered (c : Ctl) (d : DistrictId) : (c.clearBaseline d).powered = c.powered := rfl
@[simp] theorem Ctl.clearBaseline_clock (c : Ctl) (d : DistrictId) : (c.clearBaseline d).clock = c.clock := rfl
@[simp] theorem Ctl.clearBaseline_now (c : Ctl) (d : DistrictId) : (c.clearBaseline d).now = c.now := rfl
@[simp] theorem Ctl.clearBaseline_baro (c : Ctl) (d : DistrictId) : (c.clearBaseline d).baro = c.baro := rfl
@[simp] theorem Ctl.clearBaseline_holders (c : Ctl) (d : DistrictId) : (c.clearBaseline d).holders = c.holders := rfl
@[simp] theorem Ctl.clearBaseline_pins (c : Ctl) (d : DistrictId) : (c.clearBaseline d).pins = c.pins := rfl
@[simp] theorem Ctl.clearBaseline_makeFlowing (c : Ctl) (d : DistrictId) :
    (c.clearBaseline d).makeFlowing = c.makeFlowing := rfl
@[simp] theorem Ctl.clearBaseline_makeTimer (c : Ctl) (d : DistrictId) :
    (c.clearBaseline d).makeTimer = c.makeTimer := rfl
@[simp] theorem Ctl.clearBaseline_relief (c : Ctl) (d : DistrictId) : (c.clearBaseline d).relief = c.relief := rfl
@[simp] theorem Ctl.clearBaseline_seq (c : Ctl) (d : DistrictId) : (c.clearBaseline d).seq = c.seq := rfl
@[simp] theorem Ctl.clearBaseline_districts (c : Ctl) (d : DistrictId) :
    (c.clearBaseline d).districts = c.districts := rfl
@[simp] theorem Ctl.clearBaseline_line (c : Ctl) (d : DistrictId) : (c.clearBaseline d).line = c.line := rfl
@[simp] theorem Ctl.clearBaseline_pass (c : Ctl) (d : DistrictId) : (c.clearBaseline d).pass = c.pass := rfl
@[simp] theorem Ctl.clearBaseline_store (c : Ctl) (d : DistrictId) : (c.clearBaseline d).store = c.store := rfl
@[simp] theorem Ctl.clearBaseline_identity (c : Ctl) (d : DistrictId) :
    (c.clearBaseline d).identity = c.identity := rfl
@[simp] theorem Ctl.clearBaseline_yard (c : Ctl) (d : DistrictId) : (c.clearBaseline d).yard = c.yard := rfl
@[simp] theorem Ctl.clearBaseline_faults (c : Ctl) (d : DistrictId) : (c.clearBaseline d).faults = c.faults := rfl
@[simp] theorem Ctl.clearBaseline_office (c : Ctl) (d : DistrictId) : (c.clearBaseline d).office = c.office := rfl

/-! ### forgetSilent -/

@[simp] theorem Ctl.forgetSilent_powered (c : Ctl) (d : DistrictId) : (c.forgetSilent d).powered = c.powered := rfl
@[simp] theorem Ctl.forgetSilent_clock (c : Ctl) (d : DistrictId) : (c.forgetSilent d).clock = c.clock := rfl
@[simp] theorem Ctl.forgetSilent_now (c : Ctl) (d : DistrictId) : (c.forgetSilent d).now = c.now := rfl
@[simp] theorem Ctl.forgetSilent_baro (c : Ctl) (d : DistrictId) : (c.forgetSilent d).baro = c.baro := rfl
@[simp] theorem Ctl.forgetSilent_holders (c : Ctl) (d : DistrictId) : (c.forgetSilent d).holders = c.holders := rfl
@[simp] theorem Ctl.forgetSilent_pins (c : Ctl) (d : DistrictId) : (c.forgetSilent d).pins = c.pins := rfl
@[simp] theorem Ctl.forgetSilent_makeFlowing (c : Ctl) (d : DistrictId) :
    (c.forgetSilent d).makeFlowing = c.makeFlowing := rfl
@[simp] theorem Ctl.forgetSilent_makeTimer (c : Ctl) (d : DistrictId) :
    (c.forgetSilent d).makeTimer = c.makeTimer := rfl
@[simp] theorem Ctl.forgetSilent_relief (c : Ctl) (d : DistrictId) : (c.forgetSilent d).relief = c.relief := rfl
@[simp] theorem Ctl.forgetSilent_seq (c : Ctl) (d : DistrictId) : (c.forgetSilent d).seq = c.seq := rfl
@[simp] theorem Ctl.forgetSilent_districts (c : Ctl) (d : DistrictId) :
    (c.forgetSilent d).districts = c.districts := rfl
@[simp] theorem Ctl.forgetSilent_line (c : Ctl) (d : DistrictId) : (c.forgetSilent d).line = c.line := rfl
@[simp] theorem Ctl.forgetSilent_pass (c : Ctl) (d : DistrictId) : (c.forgetSilent d).pass = c.pass := rfl
@[simp] theorem Ctl.forgetSilent_store (c : Ctl) (d : DistrictId) : (c.forgetSilent d).store = c.store := rfl
@[simp] theorem Ctl.forgetSilent_identity (c : Ctl) (d : DistrictId) : (c.forgetSilent d).identity = c.identity := rfl
@[simp] theorem Ctl.forgetSilent_yard (c : Ctl) (d : DistrictId) : (c.forgetSilent d).yard = c.yard := rfl
@[simp] theorem Ctl.forgetSilent_faults (c : Ctl) (d : DistrictId) : (c.forgetSilent d).faults = c.faults := rfl
@[simp] theorem Ctl.forgetSilent_office (c : Ctl) (d : DistrictId) : (c.forgetSilent d).office = c.office := rfl

/-! ### holdSilent -/

@[simp] theorem Ctl.holdSilent_powered (c : Ctl) (d : DistrictId) (b : Bool) :
    (c.holdSilent d b).powered = c.powered := rfl
@[simp] theorem Ctl.holdSilent_clock (c : Ctl) (d : DistrictId) (b : Bool) : (c.holdSilent d b).clock = c.clock := rfl
@[simp] theorem Ctl.holdSilent_now (c : Ctl) (d : DistrictId) (b : Bool) : (c.holdSilent d b).now = c.now := rfl
@[simp] theorem Ctl.holdSilent_baro (c : Ctl) (d : DistrictId) (b : Bool) : (c.holdSilent d b).baro = c.baro := rfl
@[simp] theorem Ctl.holdSilent_holders (c : Ctl) (d : DistrictId) (b : Bool) :
    (c.holdSilent d b).holders = c.holders := rfl
@[simp] theorem Ctl.holdSilent_pins (c : Ctl) (d : DistrictId) (b : Bool) : (c.holdSilent d b).pins = c.pins := rfl
@[simp] theorem Ctl.holdSilent_makeFlowing (c : Ctl) (d : DistrictId) (b : Bool) :
    (c.holdSilent d b).makeFlowing = c.makeFlowing := rfl
@[simp] theorem Ctl.holdSilent_makeTimer (c : Ctl) (d : DistrictId) (b : Bool) :
    (c.holdSilent d b).makeTimer = c.makeTimer := rfl
@[simp] theorem Ctl.holdSilent_relief (c : Ctl) (d : DistrictId) (b : Bool) :
    (c.holdSilent d b).relief = c.relief := rfl
@[simp] theorem Ctl.holdSilent_seq (c : Ctl) (d : DistrictId) (b : Bool) : (c.holdSilent d b).seq = c.seq := rfl
@[simp] theorem Ctl.holdSilent_districts (c : Ctl) (d : DistrictId) (b : Bool) :
    (c.holdSilent d b).districts = c.districts := rfl
@[simp] theorem Ctl.holdSilent_line (c : Ctl) (d : DistrictId) (b : Bool) : (c.holdSilent d b).line = c.line := rfl
@[simp] theorem Ctl.holdSilent_pass (c : Ctl) (d : DistrictId) (b : Bool) : (c.holdSilent d b).pass = c.pass := rfl
@[simp] theorem Ctl.holdSilent_store (c : Ctl) (d : DistrictId) (b : Bool) : (c.holdSilent d b).store = c.store := rfl
@[simp] theorem Ctl.holdSilent_identity (c : Ctl) (d : DistrictId) (b : Bool) :
    (c.holdSilent d b).identity = c.identity := rfl
@[simp] theorem Ctl.holdSilent_yard (c : Ctl) (d : DistrictId) (b : Bool) : (c.holdSilent d b).yard = c.yard := rfl
@[simp] theorem Ctl.holdSilent_faults (c : Ctl) (d : DistrictId) (b : Bool) :
    (c.holdSilent d b).faults = c.faults := rfl
@[simp] theorem Ctl.holdSilent_office (c : Ctl) (d : DistrictId) (b : Bool) :
    (c.holdSilent d b).office = c.office := rfl

/-! ### storeHour -/

@[simp] theorem Ctl.storeHour_powered (c : Ctl) (r : HourRecord) : (c.storeHour r).powered = c.powered := rfl
@[simp] theorem Ctl.storeHour_clock (c : Ctl) (r : HourRecord) : (c.storeHour r).clock = c.clock := rfl
@[simp] theorem Ctl.storeHour_now (c : Ctl) (r : HourRecord) : (c.storeHour r).now = c.now := rfl
@[simp] theorem Ctl.storeHour_baro (c : Ctl) (r : HourRecord) : (c.storeHour r).baro = c.baro := rfl
@[simp] theorem Ctl.storeHour_holders (c : Ctl) (r : HourRecord) : (c.storeHour r).holders = c.holders := rfl
@[simp] theorem Ctl.storeHour_pins (c : Ctl) (r : HourRecord) : (c.storeHour r).pins = c.pins := rfl
@[simp] theorem Ctl.storeHour_makeFlowing (c : Ctl) (r : HourRecord) :
    (c.storeHour r).makeFlowing = c.makeFlowing := rfl
@[simp] theorem Ctl.storeHour_makeTimer (c : Ctl) (r : HourRecord) : (c.storeHour r).makeTimer = c.makeTimer := rfl
@[simp] theorem Ctl.storeHour_relief (c : Ctl) (r : HourRecord) : (c.storeHour r).relief = c.relief := rfl
@[simp] theorem Ctl.storeHour_seq (c : Ctl) (r : HourRecord) : (c.storeHour r).seq = c.seq := rfl
@[simp] theorem Ctl.storeHour_districts (c : Ctl) (r : HourRecord) : (c.storeHour r).districts = c.districts := rfl
@[simp] theorem Ctl.storeHour_line (c : Ctl) (r : HourRecord) : (c.storeHour r).line = c.line := rfl
@[simp] theorem Ctl.storeHour_pass (c : Ctl) (r : HourRecord) : (c.storeHour r).pass = c.pass := rfl
@[simp] theorem Ctl.storeHour_store (c : Ctl) (r : HourRecord) : (c.storeHour r).store = c.store := rfl
@[simp] theorem Ctl.storeHour_identity (c : Ctl) (r : HourRecord) : (c.storeHour r).identity = c.identity := rfl
@[simp] theorem Ctl.storeHour_yard (c : Ctl) (r : HourRecord) : (c.storeHour r).yard = c.yard := rfl
@[simp] theorem Ctl.storeHour_faults (c : Ctl) (r : HourRecord) : (c.storeHour r).faults = c.faults := rfl
@[simp] theorem Ctl.storeHour_office (c : Ctl) (r : HourRecord) : (c.storeHour r).office = c.office := rfl

/-! ### storeDay -/

@[simp] theorem Ctl.storeDay_powered (c : Ctl) (r : DayRecord) : (c.storeDay r).powered = c.powered := rfl
@[simp] theorem Ctl.storeDay_clock (c : Ctl) (r : DayRecord) : (c.storeDay r).clock = c.clock := rfl
@[simp] theorem Ctl.storeDay_now (c : Ctl) (r : DayRecord) : (c.storeDay r).now = c.now := rfl
@[simp] theorem Ctl.storeDay_baro (c : Ctl) (r : DayRecord) : (c.storeDay r).baro = c.baro := rfl
@[simp] theorem Ctl.storeDay_holders (c : Ctl) (r : DayRecord) : (c.storeDay r).holders = c.holders := rfl
@[simp] theorem Ctl.storeDay_pins (c : Ctl) (r : DayRecord) : (c.storeDay r).pins = c.pins := rfl
@[simp] theorem Ctl.storeDay_makeFlowing (c : Ctl) (r : DayRecord) : (c.storeDay r).makeFlowing = c.makeFlowing := rfl
@[simp] theorem Ctl.storeDay_makeTimer (c : Ctl) (r : DayRecord) : (c.storeDay r).makeTimer = c.makeTimer := rfl
@[simp] theorem Ctl.storeDay_relief (c : Ctl) (r : DayRecord) : (c.storeDay r).relief = c.relief := rfl
@[simp] theorem Ctl.storeDay_seq (c : Ctl) (r : DayRecord) : (c.storeDay r).seq = c.seq := rfl
@[simp] theorem Ctl.storeDay_districts (c : Ctl) (r : DayRecord) : (c.storeDay r).districts = c.districts := rfl
@[simp] theorem Ctl.storeDay_line (c : Ctl) (r : DayRecord) : (c.storeDay r).line = c.line := rfl
@[simp] theorem Ctl.storeDay_pass (c : Ctl) (r : DayRecord) : (c.storeDay r).pass = c.pass := rfl
@[simp] theorem Ctl.storeDay_store (c : Ctl) (r : DayRecord) : (c.storeDay r).store = c.store := rfl
@[simp] theorem Ctl.storeDay_identity (c : Ctl) (r : DayRecord) : (c.storeDay r).identity = c.identity := rfl
@[simp] theorem Ctl.storeDay_yard (c : Ctl) (r : DayRecord) : (c.storeDay r).yard = c.yard := rfl
@[simp] theorem Ctl.storeDay_faults (c : Ctl) (r : DayRecord) : (c.storeDay r).faults = c.faults := rfl
@[simp] theorem Ctl.storeDay_office (c : Ctl) (r : DayRecord) : (c.storeDay r).office = c.office := rfl

/-! ### setFramer -/

@[simp] theorem Ctl.setFramer_powered (c : Ctl) (f : Framer) : (c.setFramer f).powered = c.powered := rfl
@[simp] theorem Ctl.setFramer_clock (c : Ctl) (f : Framer) : (c.setFramer f).clock = c.clock := rfl
@[simp] theorem Ctl.setFramer_now (c : Ctl) (f : Framer) : (c.setFramer f).now = c.now := rfl
@[simp] theorem Ctl.setFramer_baro (c : Ctl) (f : Framer) : (c.setFramer f).baro = c.baro := rfl
@[simp] theorem Ctl.setFramer_holders (c : Ctl) (f : Framer) : (c.setFramer f).holders = c.holders := rfl
@[simp] theorem Ctl.setFramer_pins (c : Ctl) (f : Framer) : (c.setFramer f).pins = c.pins := rfl
@[simp] theorem Ctl.setFramer_makeFlowing (c : Ctl) (f : Framer) : (c.setFramer f).makeFlowing = c.makeFlowing := rfl
@[simp] theorem Ctl.setFramer_makeTimer (c : Ctl) (f : Framer) : (c.setFramer f).makeTimer = c.makeTimer := rfl
@[simp] theorem Ctl.setFramer_relief (c : Ctl) (f : Framer) : (c.setFramer f).relief = c.relief := rfl
@[simp] theorem Ctl.setFramer_seq (c : Ctl) (f : Framer) : (c.setFramer f).seq = c.seq := rfl
@[simp] theorem Ctl.setFramer_districts (c : Ctl) (f : Framer) : (c.setFramer f).districts = c.districts := rfl
@[simp] theorem Ctl.setFramer_line (c : Ctl) (f : Framer) : (c.setFramer f).line = c.line := rfl
@[simp] theorem Ctl.setFramer_pass (c : Ctl) (f : Framer) : (c.setFramer f).pass = c.pass := rfl
@[simp] theorem Ctl.setFramer_acc (c : Ctl) (f : Framer) : (c.setFramer f).acc = c.acc := rfl
@[simp] theorem Ctl.setFramer_store (c : Ctl) (f : Framer) : (c.setFramer f).store = c.store := rfl
@[simp] theorem Ctl.setFramer_identity (c : Ctl) (f : Framer) : (c.setFramer f).identity = c.identity := rfl
@[simp] theorem Ctl.setFramer_yard (c : Ctl) (f : Framer) : (c.setFramer f).yard = c.yard := rfl
@[simp] theorem Ctl.setFramer_faults (c : Ctl) (f : Framer) : (c.setFramer f).faults = c.faults := rfl

/-! ### setGate -/

@[simp] theorem Ctl.setGate_powered (c : Ctl) (b : Bool) : (c.setGate b).powered = c.powered := rfl
@[simp] theorem Ctl.setGate_clock (c : Ctl) (b : Bool) : (c.setGate b).clock = c.clock := rfl
@[simp] theorem Ctl.setGate_now (c : Ctl) (b : Bool) : (c.setGate b).now = c.now := rfl
@[simp] theorem Ctl.setGate_baro (c : Ctl) (b : Bool) : (c.setGate b).baro = c.baro := rfl
@[simp] theorem Ctl.setGate_holders (c : Ctl) (b : Bool) : (c.setGate b).holders = c.holders := rfl
@[simp] theorem Ctl.setGate_pins (c : Ctl) (b : Bool) : (c.setGate b).pins = c.pins := rfl
@[simp] theorem Ctl.setGate_makeFlowing (c : Ctl) (b : Bool) : (c.setGate b).makeFlowing = c.makeFlowing := rfl
@[simp] theorem Ctl.setGate_makeTimer (c : Ctl) (b : Bool) : (c.setGate b).makeTimer = c.makeTimer := rfl
@[simp] theorem Ctl.setGate_relief (c : Ctl) (b : Bool) : (c.setGate b).relief = c.relief := rfl
@[simp] theorem Ctl.setGate_seq (c : Ctl) (b : Bool) : (c.setGate b).seq = c.seq := rfl
@[simp] theorem Ctl.setGate_districts (c : Ctl) (b : Bool) : (c.setGate b).districts = c.districts := rfl
@[simp] theorem Ctl.setGate_line (c : Ctl) (b : Bool) : (c.setGate b).line = c.line := rfl
@[simp] theorem Ctl.setGate_pass (c : Ctl) (b : Bool) : (c.setGate b).pass = c.pass := rfl
@[simp] theorem Ctl.setGate_acc (c : Ctl) (b : Bool) : (c.setGate b).acc = c.acc := rfl
@[simp] theorem Ctl.setGate_store (c : Ctl) (b : Bool) : (c.setGate b).store = c.store := rfl
@[simp] theorem Ctl.setGate_identity (c : Ctl) (b : Bool) : (c.setGate b).identity = c.identity := rfl
@[simp] theorem Ctl.setGate_yard (c : Ctl) (b : Bool) : (c.setGate b).yard = c.yard := rfl
@[simp] theorem Ctl.setGate_faults (c : Ctl) (b : Bool) : (c.setGate b).faults = c.faults := rfl

/-! ### startExchange -/

@[simp] theorem Ctl.startExchange_powered (c : Ctl) (v : Served) (a : Nat) (f : TeleFunction) :
    (c.startExchange v a f).powered = c.powered := rfl
@[simp] theorem Ctl.startExchange_clock (c : Ctl) (v : Served) (a : Nat) (f : TeleFunction) :
    (c.startExchange v a f).clock = c.clock := rfl
@[simp] theorem Ctl.startExchange_now (c : Ctl) (v : Served) (a : Nat) (f : TeleFunction) :
    (c.startExchange v a f).now = c.now := rfl
@[simp] theorem Ctl.startExchange_baro (c : Ctl) (v : Served) (a : Nat) (f : TeleFunction) :
    (c.startExchange v a f).baro = c.baro := rfl
@[simp] theorem Ctl.startExchange_holders (c : Ctl) (v : Served) (a : Nat) (f : TeleFunction) :
    (c.startExchange v a f).holders = c.holders := rfl
@[simp] theorem Ctl.startExchange_pins (c : Ctl) (v : Served) (a : Nat) (f : TeleFunction) :
    (c.startExchange v a f).pins = c.pins := rfl
@[simp] theorem Ctl.startExchange_makeFlowing (c : Ctl) (v : Served) (a : Nat) (f : TeleFunction) :
    (c.startExchange v a f).makeFlowing = c.makeFlowing := rfl
@[simp] theorem Ctl.startExchange_makeTimer (c : Ctl) (v : Served) (a : Nat) (f : TeleFunction) :
    (c.startExchange v a f).makeTimer = c.makeTimer := rfl
@[simp] theorem Ctl.startExchange_relief (c : Ctl) (v : Served) (a : Nat) (f : TeleFunction) :
    (c.startExchange v a f).relief = c.relief := rfl
@[simp] theorem Ctl.startExchange_seq (c : Ctl) (v : Served) (a : Nat) (f : TeleFunction) :
    (c.startExchange v a f).seq = c.seq := rfl
@[simp] theorem Ctl.startExchange_districts (c : Ctl) (v : Served) (a : Nat) (f : TeleFunction) :
    (c.startExchange v a f).districts = c.districts := rfl
@[simp] theorem Ctl.startExchange_pass (c : Ctl) (v : Served) (a : Nat) (f : TeleFunction) :
    (c.startExchange v a f).pass = c.pass := rfl
@[simp] theorem Ctl.startExchange_acc (c : Ctl) (v : Served) (a : Nat) (f : TeleFunction) :
    (c.startExchange v a f).acc = c.acc := rfl
@[simp] theorem Ctl.startExchange_store (c : Ctl) (v : Served) (a : Nat) (f : TeleFunction) :
    (c.startExchange v a f).store = c.store := rfl
@[simp] theorem Ctl.startExchange_identity (c : Ctl) (v : Served) (a : Nat) (f : TeleFunction) :
    (c.startExchange v a f).identity = c.identity := rfl
@[simp] theorem Ctl.startExchange_yard (c : Ctl) (v : Served) (a : Nat) (f : TeleFunction) :
    (c.startExchange v a f).yard = c.yard := rfl
@[simp] theorem Ctl.startExchange_faults (c : Ctl) (v : Served) (a : Nat) (f : TeleFunction) :
    (c.startExchange v a f).faults = c.faults := rfl
@[simp] theorem Ctl.startExchange_office (c : Ctl) (v : Served) (a : Nat) (f : TeleFunction) :
    (c.startExchange v a f).office = c.office := rfl

/-! ### orphanExchange -/

@[simp] theorem Ctl.orphanExchange_powered (c : Ctl) (d : DistrictId) :
    (c.orphanExchange d).powered = c.powered := rfl
@[simp] theorem Ctl.orphanExchange_clock (c : Ctl) (d : DistrictId) : (c.orphanExchange d).clock = c.clock := rfl
@[simp] theorem Ctl.orphanExchange_now (c : Ctl) (d : DistrictId) : (c.orphanExchange d).now = c.now := rfl
@[simp] theorem Ctl.orphanExchange_baro (c : Ctl) (d : DistrictId) : (c.orphanExchange d).baro = c.baro := rfl
@[simp] theorem Ctl.orphanExchange_holders (c : Ctl) (d : DistrictId) :
    (c.orphanExchange d).holders = c.holders := rfl
@[simp] theorem Ctl.orphanExchange_pins (c : Ctl) (d : DistrictId) : (c.orphanExchange d).pins = c.pins := rfl
@[simp] theorem Ctl.orphanExchange_makeFlowing (c : Ctl) (d : DistrictId) :
    (c.orphanExchange d).makeFlowing = c.makeFlowing := rfl
@[simp] theorem Ctl.orphanExchange_makeTimer (c : Ctl) (d : DistrictId) :
    (c.orphanExchange d).makeTimer = c.makeTimer := rfl
@[simp] theorem Ctl.orphanExchange_relief (c : Ctl) (d : DistrictId) : (c.orphanExchange d).relief = c.relief := rfl
@[simp] theorem Ctl.orphanExchange_seq (c : Ctl) (d : DistrictId) : (c.orphanExchange d).seq = c.seq := rfl
@[simp] theorem Ctl.orphanExchange_districts (c : Ctl) (d : DistrictId) :
    (c.orphanExchange d).districts = c.districts := rfl
@[simp] theorem Ctl.orphanExchange_pass (c : Ctl) (d : DistrictId) : (c.orphanExchange d).pass = c.pass := rfl
@[simp] theorem Ctl.orphanExchange_acc (c : Ctl) (d : DistrictId) : (c.orphanExchange d).acc = c.acc := rfl
@[simp] theorem Ctl.orphanExchange_store (c : Ctl) (d : DistrictId) : (c.orphanExchange d).store = c.store := rfl
@[simp] theorem Ctl.orphanExchange_identity (c : Ctl) (d : DistrictId) :
    (c.orphanExchange d).identity = c.identity := rfl
@[simp] theorem Ctl.orphanExchange_yard (c : Ctl) (d : DistrictId) : (c.orphanExchange d).yard = c.yard := rfl
@[simp] theorem Ctl.orphanExchange_faults (c : Ctl) (d : DistrictId) : (c.orphanExchange d).faults = c.faults := rfl
@[simp] theorem Ctl.orphanExchange_office (c : Ctl) (d : DistrictId) : (c.orphanExchange d).office = c.office := rfl

@[simp] theorem Ctl.modStation_get_self (c : Ctl) (d : DistrictId) (f : StationRec → StationRec) :
    (c.modStation d f).districts.get d = (c.districts.get d).map fun r => { r with station := f r.station } := by
  simp [Ctl.modStation]
@[simp] theorem Ctl.modProg_get_self (c : Ctl) (d : DistrictId) (f : Programme → Programme) :
    (c.modProg d f).districts.get d = (c.districts.get d).map fun r => { r with prog := f r.prog } := by
  simp [Ctl.modProg]
@[simp] theorem Ctl.reply_replies (c : Ctl) (k g : Byte) (r : Result) (x : ReplyContent) :
    (c.reply k g r x).office.replies =
      c.office.replies ++ [{ kind := k, tag := g, result := r, content := x }] := rfl

/-! ### A posted notice touches the queue and the dropped mark alone -/

theorem Ctl.post_eq (c : Ctl) (n : NoticeContent) : c.post n = { c with office :=
    { c.office with queue := (c.post n).office.queue, dropped := (c.post n).office.dropped } } := by
  unfold Ctl.post
  split
  · split <;> rfl
  · rfl

@[simp] theorem Ctl.post_powered (c : Ctl) (n : NoticeContent) : (c.post n).powered = c.powered := by rw [Ctl.post_eq]
@[simp] theorem Ctl.post_clock (c : Ctl) (n : NoticeContent) : (c.post n).clock = c.clock := by rw [Ctl.post_eq]
@[simp] theorem Ctl.post_now (c : Ctl) (n : NoticeContent) : (c.post n).now = c.now := by rw [Ctl.post_eq]
@[simp] theorem Ctl.post_baro (c : Ctl) (n : NoticeContent) : (c.post n).baro = c.baro := by rw [Ctl.post_eq]
@[simp] theorem Ctl.post_holders (c : Ctl) (n : NoticeContent) : (c.post n).holders = c.holders := by rw [Ctl.post_eq]
@[simp] theorem Ctl.post_pins (c : Ctl) (n : NoticeContent) : (c.post n).pins = c.pins := by rw [Ctl.post_eq]
@[simp] theorem Ctl.post_makeFlowing (c : Ctl) (n : NoticeContent) : (c.post n).makeFlowing = c.makeFlowing := by rw [Ctl.post_eq]
@[simp] theorem Ctl.post_makeTimer (c : Ctl) (n : NoticeContent) : (c.post n).makeTimer = c.makeTimer := by rw [Ctl.post_eq]
@[simp] theorem Ctl.post_relief (c : Ctl) (n : NoticeContent) : (c.post n).relief = c.relief := by rw [Ctl.post_eq]
@[simp] theorem Ctl.post_seq (c : Ctl) (n : NoticeContent) : (c.post n).seq = c.seq := by rw [Ctl.post_eq]
@[simp] theorem Ctl.post_districts (c : Ctl) (n : NoticeContent) : (c.post n).districts = c.districts := by rw [Ctl.post_eq]
@[simp] theorem Ctl.post_line (c : Ctl) (n : NoticeContent) : (c.post n).line = c.line := by rw [Ctl.post_eq]
@[simp] theorem Ctl.post_pass (c : Ctl) (n : NoticeContent) : (c.post n).pass = c.pass := by rw [Ctl.post_eq]
@[simp] theorem Ctl.post_acc (c : Ctl) (n : NoticeContent) : (c.post n).acc = c.acc := by rw [Ctl.post_eq]
@[simp] theorem Ctl.post_store (c : Ctl) (n : NoticeContent) : (c.post n).store = c.store := by rw [Ctl.post_eq]
@[simp] theorem Ctl.post_identity (c : Ctl) (n : NoticeContent) : (c.post n).identity = c.identity := by rw [Ctl.post_eq]
@[simp] theorem Ctl.post_yard (c : Ctl) (n : NoticeContent) : (c.post n).yard = c.yard := by rw [Ctl.post_eq]
@[simp] theorem Ctl.post_faults (c : Ctl) (n : NoticeContent) : (c.post n).faults = c.faults := by rw [Ctl.post_eq]
@[simp] theorem Ctl.post_office_speed (c : Ctl) (n : NoticeContent) :
    (c.post n).office.speed = c.office.speed := by rw [Ctl.post_eq]
@[simp] theorem Ctl.post_office_framer (c : Ctl) (n : NoticeContent) :
    (c.post n).office.framer = c.office.framer := by rw [Ctl.post_eq]
@[simp] theorem Ctl.post_office_outstanding (c : Ctl) (n : NoticeContent) :
    (c.post n).office.outstanding = c.office.outstanding := by rw [Ctl.post_eq]
@[simp] theorem Ctl.post_office_replies (c : Ctl) (n : NoticeContent) :
    (c.post n).office.replies = c.office.replies := by rw [Ctl.post_eq]
@[simp] theorem Ctl.post_office_sending (c : Ctl) (n : NoticeContent) :
    (c.post n).office.sending = c.office.sending := by rw [Ctl.post_eq]
@[simp] theorem Ctl.post_office_gate (c : Ctl) (n : NoticeContent) :
    (c.post n).office.gate = c.office.gate := by rw [Ctl.post_eq]
@[simp] theorem Ctl.post_office_overrun (c : Ctl) (n : NoticeContent) :
    (c.post n).office.overrun = c.office.overrun := by rw [Ctl.post_eq]
@[simp] theorem Ctl.post_office_noticeNumber (c : Ctl) (n : NoticeContent) :
    (c.post n).office.noticeNumber = c.office.noticeNumber := by rw [Ctl.post_eq]
@[simp] theorem Ctl.post_office_restart (c : Ctl) (n : NoticeContent) :
    (c.post n).office.restart = c.office.restart := by rw [Ctl.post_eq]

end Machine

end Sys2Proof
end

