-- ==== Sys2Proof/Laws/Ops.lean ====
section
/-! SUPPORT. What each shared operation can do, said once: posting, taking a fault, taking a request, events, the lists of
bounded size. -/

namespace Sys2Proof.Machine

/-! ### Notices (R178 to R180) -/

theorem Ctl.post_closed {c : Ctl} (n : NoticeContent) (gate : c.office.gate = false) : c.post n = c := by
  simp [Ctl.post, gate]

theorem Ctl.post_open {c : Ctl} (n : NoticeContent) (gate : c.office.gate = true)
    (room : c.office.queue.length < 16) :
    c.post n = { c with office := { c.office with queue := c.office.queue ++
      [{ minute := c.clock.minute, clockUnset := !c.clock.isSet, content := n }] } } := by
  simp [Ctl.post, gate, Config.noticeQueueMax, room]

theorem Ctl.post_full {c : Ctl} (n : NoticeContent) (gate : c.office.gate = true)
    (full : 16 ≤ c.office.queue.length) : c.post n = { c with office := { c.office with dropped := true } } := by
  simp [Ctl.post, gate, Config.noticeQueueMax, Nat.not_lt.mpr full]

/-- R180: a post never makes the queue longer than 16. -/
theorem Ctl.post_queue_le (c : Ctl) (n : NoticeContent) (le : c.office.queue.length ≤ 16) :
    (c.post n).office.queue.length ≤ 16 := by
  unfold Ctl.post
  split
  · split
    · rename_i h
      simp only [Config.noticeQueueMax] at h
      simp only [List.length_append, List.length_cons, List.length_nil]
      omega
    · exact le
  · exact le

/-- R180: a post makes the queue longer by one notice at the most, at its new end. -/
theorem Ctl.post_queue_prefix (c : Ctl) (n : NoticeContent) :
    ∃ more, (c.post n).office.queue = c.office.queue ++ more ∧ more.length ≤ 1 := by
  unfold Ctl.post
  split
  · split
    · exact ⟨_, rfl, by simp⟩
    · exact ⟨[], by simp, by simp⟩
  · exact ⟨[], by simp, by simp⟩

/-! ### The office after posts -/

theorem Office.samePosts_refl (o : Office) : o.samePosts o := rfl

theorem Office.samePosts_trans {a b d : Office} (ab : a.samePosts b) (bd : b.samePosts d) : a.samePosts d := by
  unfold Office.samePosts at *
  rw [bd] at ab
  exact ab

theorem Ctl.post_samePosts (c : Ctl) (n : NoticeContent) : (c.post n).office.samePosts c.office := by
  unfold Office.samePosts
  rw [Ctl.post_eq]

/-! ### Faults (R194) -/

/-- R194: a taken fault fills an empty record, and leaves a filled one with the further-faults mark set. -/
theorem Ctl.takeFault_faults (c : Ctl) (f : FaultReport) : (c.takeFault f).faults =
    if c.faults.first = none then
      { c.faults with first := some { fault := f, minute := c.clock.minute, clockUnset := !c.clock.isSet } }
    else { c.faults with further := true } := by
  unfold Ctl.takeFault
  cases h : c.faults.first <;> simp

/-! ### Events -/

theorem State.event_powered {s : State} (f : Ctl → Ctl) (on : s.ctl.powered = true) :
    s.event f = .next (s.withCtl (f s.ctl)) := by
  simp [State.event, on]

theorem State.event_held {s : State} (f : Ctl → Ctl) (off : s.ctl.powered = false) : s.event f = .next s := by
  simp [State.event, off]

/-! ### Requests (R173, R174, R181) -/

theorem Ctl.takeRequest_of_admits {c : Ctl} (kind tag : Byte) {body : List Byte} (owner : Ctl → Byte → List Byte → Ctl)
    (ok : c.admits) (len : lengthAdmitted kind.toNat body = true) :
    c.takeRequest kind tag body owner = owner c.taken tag body := by
  obtain ⟨on, free, room⟩ := ok
  simp [Ctl.takeRequest, Ctl.admitRequest, on, free, room, len, Ctl.taken]

theorem Ctl.takeRequest_badLength {c : Ctl} (kind tag : Byte) {body : List Byte}
    (owner : Ctl → Byte → List Byte → Ctl) (ok : c.admits) (len : lengthAdmitted kind.toNat body = false) :
    c.takeRequest kind tag body owner = c.answered kind tag .badLength .nothing := by
  obtain ⟨on, free, room⟩ := ok
  simp [Ctl.takeRequest, Ctl.admitRequest, on, free, room, len, Ctl.answered, Ctl.refuse, Ctl.reply]

/-- R173, R174, R181: every way a request command can go. -/
theorem Ctl.takeRequest_cases (c : Ctl) (kind tag : Byte) (body : List Byte) (owner : Ctl → Byte → List Byte → Ctl) :
    (c.takeRequest kind tag body owner = c ∧ (c.powered = false ∨ c.office.restart.isSome = true)) ∨
    (c.takeRequest kind tag body owner = { c with office := { c.office with overrun := true } } ∧
      c.powered = true ∧ c.office.restart = none ∧ 8 ≤ c.office.outstanding) ∨
    (c.takeRequest kind tag body owner = c.answered kind tag .badLength .nothing ∧ c.admits ∧
      lengthAdmitted kind.toNat body = false) ∨
    (c.takeRequest kind tag body owner = owner c.taken tag body ∧ c.admits ∧ lengthAdmitted kind.toNat body = true) := by
  by_cases on : c.powered = true
  · cases free : c.office.restart with
    | some r => exact .inl ⟨by simp [Ctl.takeRequest, Ctl.admitRequest, free], .inr rfl⟩
    | none =>
      by_cases room : c.office.outstanding < 8
      · have ok : c.admits := ⟨on, free, room⟩
        cases len : lengthAdmitted kind.toNat body with
        | false => exact .inr (.inr (.inl ⟨c.takeRequest_badLength kind tag owner ok len, ok, rfl⟩))
        | true => exact .inr (.inr (.inr ⟨c.takeRequest_of_admits kind tag owner ok len, ok, rfl⟩))
      · exact .inr (.inl ⟨by simp [Ctl.takeRequest, Ctl.admitRequest, on, free, Config.outstandingMax, room],
          on, rfl, Nat.not_lt.mp room⟩)
  · simp only [Bool.not_eq_true] at on
    exact .inl ⟨by simp [Ctl.takeRequest, Ctl.admitRequest, on], .inl on⟩

@[simp] theorem Ctl.taken_reply (c : Ctl) (kind tag : Byte) (r : Result) (x : ReplyContent) :
    c.taken.reply kind tag r x = c.answered kind tag r x := rfl

@[simp] theorem Ctl.taken_refuse (c : Ctl) (kind tag : Byte) (r : Result) :
    c.taken.refuse kind tag r = c.answered kind tag r .nothing := rfl

@[simp] theorem Ctl.taken_beginStore (c : Ctl) (kind tag : Byte) (w : StoreWork) :
    c.taken.beginStore kind tag w = c.storing kind tag w := rfl

/-! ### The lists of bounded size (R64, R160) -/

theorem appendEnded_length (l : List EndRecord) (r : EndRecord) (le : l.length ≤ 4) :
    (appendEnded l r).length ≤ 4 := by
  unfold appendEnded
  split
  · rename_i h
    simp only [Config.endedListMax] at h
    simp only [List.length_append, List.length_cons, List.length_nil]
    omega
  · simp only [List.length_append, List.length_drop, List.length_cons, List.length_nil]
    omega

theorem appendRecord_length {α : Type} (number : α → Nat) (full : Nat) (l : List α) (cursor : Nat) (r : α)
    (pos : 0 < full) (le : l.length ≤ full) : (appendRecord number full l cursor r).1.length ≤ full := by
  unfold appendRecord
  split
  · simp only [List.length_append, List.length_cons, List.length_nil]
    omega
  · cases l with
    | nil => exact pos
    | cons a rest =>
      simp only [List.length_append, List.length_cons, List.length_nil] at *
      omega

/-- R160: the newest record is the one appended. -/
theorem appendRecord_getLast {α : Type} (number : α → Nat) (full : Nat) (l : List α) (cursor : Nat) (r : α) :
    (appendRecord number full l cursor r).1.getLast? = some r := by
  unfold appendRecord
  split
  · simp
  · cases l <;> simp

/-- R152: a total after an addition. -/
theorem addTotal_eq (total add : Nat) :
    addTotal total add = (min (total + add) 4000000000, decide (4000000000 < total + add)) := by
  unfold addTotal Config.totalMax
  by_cases h : 4000000000 < total + add
  · rw [if_pos h, Nat.min_eq_right (Nat.le_of_lt h), decide_eq_true h]
  · rw [if_neg h, Nat.min_eq_left (Nat.not_lt.mp h), decide_eq_false h]

/-! ### Timers that come to zero (R47, R52) -/

/-- R47, R49: the travel timeout makes its event of a travelling valve at zero only. -/
theorem ValveRec.timedOut_iff (v : ValveRec) :
    v.timedOut = true ↔ (v.state = .opening ∨ v.state = .closing) ∧ v.timeout = some 0 := by
  simp [ValveRec.timedOut, ValveRec.travelling]

/-- R47: a valve that has just started to travel, or reversed, has not run out, where its travel time is positive (R44
gives 10 to 600 s). -/
theorem ValveRec.startTravel_timedOut (v : ValveRec) (st : ValveState) (pos : 0 < v.travelTime) :
    (v.startTravel st).timedOut = false := by
  have : 0 < travelTimeout v.travelTime := by unfold travelTimeout; omega
  simp [ValveRec.timedOut, ValveRec.startTravel]
  omega

/-- R52: a pulse taken first restarts the timer, and the expiry does not occur. -/
theorem Ctl.makeFlows_makeExpires (c : Ctl) : c.makeFlows.makeExpires = c.makeFlows := by
  simp [Ctl.makeExpires, Ctl.makeFlows, Config.makeTimerSeconds]

/-- R1: the rounded quotient lies within half of the exact one. -/
theorem rounded_bounds (n d : Nat) (pos : 0 < d) :
    2 * n < 2 * d * rounded n d + d ∧ 2 * d * rounded n d ≤ 2 * n + d := by
  unfold rounded
  have lt := Nat.lt_mul_div_succ (2 * n + d) (show 0 < 2 * d by omega)
  have le := Nat.mul_div_le (2 * n + d) (2 * d)
  rw [Nat.mul_add] at lt
  omega

end Sys2Proof.Machine
end

