-- ==== Sys2Proof/Laws/Orders.lean ====
section
/-! SUPPORT. What the Order Sequencer can touch: its own record, the valves and connection states of the holders, and the
posted notices. Every operation of chapter 4 leaves all else. -/

namespace Sys2Proof.Machine

/-- Holder for holder, the records differ at most in their valves and connection state. -/
def sameGauges (a b : PerHolder (Option HolderRec)) : Prop :=
  ∀ h : HolderId, (a.get h = none ∧ b.get h = none) ∨
    ∃ x y, a.get h = some x ∧ b.get h = some y ∧ y.sameGauge x

/-- The controller t comes from c by the Order Sequencer alone. -/
def Ctl.onlyOrders (c t : Ctl) : Prop :=
  t = { c with holders := t.holders, seq := t.seq, office := t.office } ∧ t.office.samePosts c.office ∧
    sameGauges c.holders t.holders

theorem HolderRec.sameGauge_refl (r : HolderRec) : r.sameGauge r := rfl

theorem HolderRec.sameGauge_trans {a b d : HolderRec} (ab : a.sameGauge b) (bd : b.sameGauge d) : a.sameGauge d := by
  unfold HolderRec.sameGauge at *
  rw [bd] at ab
  exact ab

theorem sameGauges_refl (p : PerHolder (Option HolderRec)) : sameGauges p p := fun h => by
  cases eq : p.get h with
  | none => exact .inl ⟨rfl, rfl⟩
  | some r => exact .inr ⟨r, r, rfl, rfl, r.sameGauge_refl⟩

theorem sameGauges_trans {p q r : PerHolder (Option HolderRec)} (pq : sameGauges p q) (qr : sameGauges q r) :
    sameGauges p r := fun h => by
  rcases pq h with ⟨a, b⟩ | ⟨x, y, a, b, xy⟩ <;> rcases qr h with ⟨b', d⟩ | ⟨y', z, b', d, yz⟩
  · exact .inl ⟨a, d⟩
  · simp [b] at b'
  · simp [b] at b'
  · rw [b] at b'
    cases b'
    exact .inr ⟨x, z, a, d, HolderRec.sameGauge_trans yz xy⟩

theorem sameGauges_put {p : PerHolder (Option HolderRec)} {h : HolderId} {r q : HolderRec} (eq : p.get h = some r)
    (same : q.sameGauge r) : sameGauges p (p.put h (some q)) := fun i => by
  by_cases ne : i = h
  · subst ne
    exact .inr ⟨r, q, eq, by simp, same⟩
  · rw [PerHolder.get_put_of_ne _ _ ne]
    exact sameGauges_refl p i

theorem Ctl.onlyOrders_refl (c : Ctl) : c.onlyOrders c := ⟨rfl, rfl, sameGauges_refl _⟩

theorem Ctl.onlyOrders_trans {a b d : Ctl} (ab : a.onlyOrders b) (bd : b.onlyOrders d) : a.onlyOrders d := by
  obtain ⟨e1, p1, g1⟩ := ab
  obtain ⟨e2, p2, g2⟩ := bd
  refine ⟨?_, Office.samePosts_trans p2 p1, sameGauges_trans g1 g2⟩
  rw [e1] at e2
  exact e2

theorem Ctl.onlyOrders_seq (c : Ctl) (q : Sequencer) : c.onlyOrders { c with seq := q } :=
  ⟨rfl, rfl, sameGauges_refl _⟩

theorem Ctl.onlyOrders_post (c : Ctl) (n : NoticeContent) : c.onlyOrders (c.post n) :=
  ⟨by rw [Ctl.post_eq], c.post_samePosts n, by simpa using sameGauges_refl c.holders⟩

theorem Ctl.onlyOrders_modOrder (c : Ctl) (n : Nat) (f : Order → Order) : c.onlyOrders (c.modOrder n f) :=
  ⟨rfl, rfl, sameGauges_refl _⟩

theorem Ctl.onlyOrders_setPhase (c : Ctl) (n : Nat) (p : Phase) : c.onlyOrders (c.setPhase n p) :=
  ⟨rfl, rfl, sameGauges_refl _⟩

/-- R46, R51: a valve command changes a record in its valves and its connection state alone. -/
theorem HolderRec.take_sameGauge (r : HolderRec) (side : Side) (p : Position) (src : Source) :
    (r.take side p src).1.sameGauge r := by
  cases side <;> rfl

theorem Ctl.onlyOrders_takeOrderCommand (c : Ctl) (n : Nat) (h : HolderId) (side : Side) (p : Position) :
    c.onlyOrders (c.takeOrderCommand n h side p) := by
  unfold Ctl.takeOrderCommand
  cases eq : c.holders.get h with
  | none => exact c.onlyOrders_refl
  | some r =>
    have put : c.onlyOrders (c.putHolder h (some (r.take side p (.order n)).1)) :=
      ⟨rfl, rfl, sameGauges_put eq (r.take_sameGauge side p _)⟩
    cases ev : (r.take side p (.order n)).2 with
    | none => simpa [ev] using put
    | some e =>
      simp only [ev]
      refine Ctl.onlyOrders_trans put ?_
      unfold Ctl.valveNotice
      split
      · exact Ctl.onlyOrders_post _ _
      · exact Ctl.onlyOrders_refl _

theorem Ctl.onlyOrders_orderCommand (c : Ctl) (n : Nat) (h : HolderId) (side : Side) (p : Position) :
    c.onlyOrders (c.orderCommand n h side p).1 := by
  unfold Ctl.orderCommand
  split
  · exact c.onlyOrders_takeOrderCommand n h side p
  · exact c.onlyOrders_refl
  · exact c.onlyOrders_refl

/-- A valve command touches no record of the sequencer. -/
@[simp] theorem Ctl.orderCommand_seq (c : Ctl) (n : Nat) (h : HolderId) (side : Side) (p : Position) :
    (c.orderCommand n h side p).1.seq = c.seq := by
  unfold Ctl.orderCommand
  split
  · unfold Ctl.takeOrderCommand Ctl.valveNotice
    dsimp only
    repeat' split
    all_goals simp
  · rfl
  · rfl

theorem Ctl.onlyOrders_recordEnd (c : Ctl) (o : Order) (e : Ending) : c.onlyOrders (c.recordEnd o e) :=
  Ctl.onlyOrders_trans (Ctl.onlyOrders_seq c _) (Ctl.onlyOrders_post _ _)

/-- R64, R82: an end takes the order's number out of the list and puts its record last into the ended list. -/
@[simp] theorem Ctl.recordEnd_seq (c : Ctl) (o : Order) (e : Ending) : (c.recordEnd o e).seq =
    { c.seq with orders := c.seq.orders.filter fun p => p.number != o.number
                 ended := appendEnded c.seq.ended
                   (o.endRecord e (c.seq.lastStock.get o.holder) c.clock.minute) } := by
  simp [Ctl.recordEnd]

theorem Ctl.onlyOrders_endWithAction (c : Ctl) (o : Order) (r : EndReason) (x : EndCause) :
    c.onlyOrders (c.endWithAction o r x) := by
  unfold Ctl.endWithAction
  split
  · exact Ctl.onlyOrders_trans (c.onlyOrders_orderCommand ..) (Ctl.onlyOrders_recordEnd ..)
  · exact Ctl.onlyOrders_recordEnd ..
  · exact Ctl.onlyOrders_recordEnd ..

theorem Ctl.onlyOrders_endClosingNew (c : Ctl) (o : Order) (r : EndReason) (x : EndCause) :
    c.onlyOrders (c.endClosingNew o r x) := by
  unfold Ctl.endClosingNew
  split
  · exact Ctl.onlyOrders_trans (c.onlyOrders_orderCommand ..) (Ctl.onlyOrders_recordEnd ..)
  · exact Ctl.onlyOrders_recordEnd ..

theorem Ctl.onlyOrders_closeOld (c : Ctl) (o : Order) : c.onlyOrders (c.closeOld o) := by
  have go := Ctl.onlyOrders_trans (c.onlyOrders_orderCommand o.number o.holder .outlet .closed)
    (Ctl.onlyOrders_setPhase _ o.number .closingOld)
  unfold Ctl.closeOld
  dsimp only
  split
  · exact Ctl.onlyOrders_trans go (Ctl.onlyOrders_recordEnd ..)
  · exact go

theorem Ctl.onlyOrders_startFlow (c : Ctl) (o : Order) (p q : Phase) : c.onlyOrders (c.startFlow o p q) :=
  Ctl.onlyOrders_trans (c.onlyOrders_orderCommand ..) (Ctl.onlyOrders_setPhase ..)

theorem Ctl.onlyOrders_startChangeover (c : Ctl) (o : Order) (b : HolderId) : c.onlyOrders (c.startChangeover o b) := by
  have go := Ctl.onlyOrders_trans (c.onlyOrders_orderCommand o.number b .outlet .opened)
    (Ctl.onlyOrders_setPhase _ o.number .openingNew)
  unfold Ctl.startChangeover
  dsimp only
  split
  · exact Ctl.onlyOrders_trans go (Ctl.onlyOrders_closeOld ..)
  · exact go

theorem Ctl.onlyOrders_startIsolate (c : Ctl) (o : Order) : c.onlyOrders (c.startIsolate o) := by
  have go := Ctl.onlyOrders_trans (c.onlyOrders_orderCommand o.number o.holder .inlet .closed)
    (Ctl.onlyOrders_orderCommand _ o.number o.holder .outlet .closed)
  unfold Ctl.startIsolate
  dsimp only
  split
  · exact Ctl.onlyOrders_trans go (Ctl.onlyOrders_recordEnd ..)
  · have go' := Ctl.onlyOrders_trans go (Ctl.onlyOrders_setPhase _ o.number .closing)
    split
    · exact Ctl.onlyOrders_trans go' (Ctl.onlyOrders_recordEnd ..)
    · exact go'

theorem Ctl.onlyOrders_startOrder (c : Ctl) (o : Order) : c.onlyOrders (c.startOrder o) := by
  unfold Ctl.startOrder
  split
  · exact Ctl.onlyOrders_recordEnd ..
  · split
    · exact Ctl.onlyOrders_startFlow ..
    · exact Ctl.onlyOrders_startFlow ..
    · split
      · exact Ctl.onlyOrders_startChangeover ..
      · exact Ctl.onlyOrders_setPhase ..
    · exact Ctl.onlyOrders_startIsolate ..

theorem Ctl.onlyOrders_startHeads (fuel : Nat) (c : Ctl) : c.onlyOrders (Ctl.startHeads fuel c) := by
  induction fuel generalizing c with
  | zero => exact c.onlyOrders_refl
  | succ n ih =>
    unfold Ctl.startHeads
    split
    · exact c.onlyOrders_refl
    · split
      · exact Ctl.onlyOrders_trans (c.onlyOrders_startOrder _) (ih _)
      · exact c.onlyOrders_refl

theorem Ctl.onlyOrders_startingRule (c : Ctl) : c.onlyOrders c.startingRule := by
  unfold Ctl.startingRule
  split
  · exact c.onlyOrders_refl
  · exact Ctl.onlyOrders_startHeads ..

theorem Ctl.onlyOrders_endFlow (c : Ctl) (o : Order) (r : EndReason) : c.onlyOrders (c.endFlow o r) :=
  Ctl.onlyOrders_trans (c.onlyOrders_endWithAction ..) (Ctl.onlyOrders_startingRule _)

theorem Ctl.onlyOrders_noteStock (c : Ctl) (h : HolderId) (n : Nat) : c.onlyOrders (c.noteStock h n) :=
  ⟨rfl, rfl, sameGauges_refl _⟩

theorem Ctl.onlyOrders_judgeSample (c : Ctl) (h : HolderId) (g : Given) : c.onlyOrders (c.judgeSample h g) := by
  unfold Ctl.judgeSample
  split
  · exact c.onlyOrders_refl
  · dsimp only
    split
    · exact Ctl.onlyOrders_modOrder ..
    · split
      · exact Ctl.onlyOrders_trans (Ctl.onlyOrders_modOrder ..) (Ctl.onlyOrders_endFlow ..)
      · exact Ctl.onlyOrders_modOrder ..

theorem Ctl.onlyOrders_giveSample (c : Ctl) (h : HolderId) (g : Given) : c.onlyOrders (c.giveSample h g) := by
  unfold Ctl.giveSample
  split
  · exact Ctl.onlyOrders_trans (c.onlyOrders_noteStock h _) (Ctl.onlyOrders_judgeSample _ h g)
  · exact c.onlyOrders_refl

theorem Ctl.onlyOrders_phaseStep (c : Ctl) (o : Order) : c.onlyOrders (c.phaseStep o) := by
  unfold Ctl.phaseStep
  dsimp only
  repeat' split
  all_goals first
    | exact c.onlyOrders_refl
    | exact Ctl.onlyOrders_setPhase ..
    | exact Ctl.onlyOrders_closeOld ..
    | exact Ctl.onlyOrders_trans (Ctl.onlyOrders_closeOld ..) (Ctl.onlyOrders_startingRule _)
    | exact Ctl.onlyOrders_trans (Ctl.onlyOrders_recordEnd ..) (Ctl.onlyOrders_startingRule _)

theorem Ctl.onlyOrders_reportArrival (c : Ctl) (h : HolderId) (side : Side) (st : ValveState) :
    c.onlyOrders (c.reportArrival h side st) := by
  unfold Ctl.reportArrival
  split
  · exact c.onlyOrders_refl
  · split
    · exact Ctl.onlyOrders_modOrder ..
    · exact Ctl.onlyOrders_phaseStep ..

theorem Ctl.onlyOrders_failOrder {c t : Ctl} {o : Order} {h : HolderId} {side : Side} {st : ValveState}
    (eq : c.failOrder o h side st = some t) : c.onlyOrders t := by
  unfold Ctl.failOrder at eq
  dsimp only at eq
  repeat' split at eq
  all_goals first
    | cases eq; done
    | cases eq; exact Ctl.onlyOrders_endWithAction ..
    | cases eq; exact Ctl.onlyOrders_endClosingNew ..
    | cases eq; exact Ctl.onlyOrders_recordEnd ..

theorem Ctl.onlyOrders_reportFailure (c : Ctl) (h : HolderId) (side : Side) (st : ValveState) :
    c.onlyOrders (c.reportFailure h side st) := by
  unfold Ctl.reportFailure
  split
  · exact c.onlyOrders_refl
  · split
    · exact Ctl.onlyOrders_trans (Ctl.onlyOrders_failOrder ‹_›) (Ctl.onlyOrders_startingRule _)
    · exact c.onlyOrders_refl

theorem Ctl.onlyOrders_reportState (c : Ctl) (h : HolderId) (side : Side) (st : ValveState) :
    c.onlyOrders (c.reportState h side st) := by
  unfold Ctl.reportState
  split <;> first
    | exact c.onlyOrders_refl
    | exact Ctl.onlyOrders_reportArrival ..
    | exact Ctl.onlyOrders_reportFailure ..

theorem Ctl.onlyOrders_orderTrip (c : Ctl) (h : HolderId) (kind : TripKind) : c.onlyOrders (c.orderTrip h kind) := by
  unfold Ctl.orderTrip
  split
  · exact c.onlyOrders_refl
  · split
    · exact Ctl.onlyOrders_trans (Ctl.onlyOrders_recordEnd ..) (Ctl.onlyOrders_startingRule _)
    · exact c.onlyOrders_refl

theorem Ctl.onlyOrders_timeOut (c : Ctl) (o : Order) : c.onlyOrders (c.timeOut o) := by
  unfold Ctl.timeOut
  repeat' split
  all_goals first
    | exact Ctl.onlyOrders_trans (Ctl.onlyOrders_endWithAction ..) (Ctl.onlyOrders_startingRule _)
    | exact Ctl.onlyOrders_trans (Ctl.onlyOrders_endClosingNew ..) (Ctl.onlyOrders_startingRule _)
    | exact Ctl.onlyOrders_trans (Ctl.onlyOrders_recordEnd ..) (Ctl.onlyOrders_startingRule _)

theorem Ctl.onlyOrders_orderMinuteOf (c : Ctl) (n : Nat) : c.onlyOrders (c.orderMinuteOf n) := by
  unfold Ctl.orderMinuteOf
  split
  · exact c.onlyOrders_refl
  · dsimp only
    split
    · exact Ctl.onlyOrders_trans (Ctl.onlyOrders_modOrder ..) (Ctl.onlyOrders_timeOut ..)
    · exact Ctl.onlyOrders_modOrder ..

theorem Ctl.onlyOrders_foldl {α : Type} (f : Ctl → α → Ctl) (step : ∀ (c : Ctl) (a : α), c.onlyOrders (f c a))
    (l : List α) (c : Ctl) :
    c.onlyOrders (l.foldl f c) := by
  induction l generalizing c with
  | nil => exact c.onlyOrders_refl
  | cons a l ih => exact Ctl.onlyOrders_trans (step c a) (ih _)

/-- R78: the minute event at the sequencer touches the sequencer, the valves and the notices alone. -/
theorem Ctl.onlyOrders_ordersMinute (c : Ctl) : c.onlyOrders c.ordersMinute := by
  unfold Ctl.ordersMinute
  split
  · exact c.onlyOrders_refl
  · exact Ctl.onlyOrders_foldl _ Ctl.onlyOrders_orderMinuteOf _ _

theorem Ctl.onlyOrders_cancel {c t : Ctl} {o : Order} (eq : c.cancel o = some t) : c.onlyOrders t := by
  unfold Ctl.cancel at eq
  split at eq <;> cases eq <;> first
    | exact Ctl.onlyOrders_endFlow ..
    | exact Ctl.onlyOrders_trans (Ctl.onlyOrders_endClosingNew ..) (Ctl.onlyOrders_startingRule _)
    | exact Ctl.onlyOrders_trans (Ctl.onlyOrders_recordEnd ..) (Ctl.onlyOrders_startingRule _)

theorem Ctl.onlyOrders_resumeOrder (c : Ctl) (n : Nat) : c.onlyOrders (c.resumeOrder n) := by
  refine Ctl.onlyOrders_trans (b := c.resumeArrival n) ?_ ?_
  · unfold Ctl.resumeArrival
    split
    · exact c.onlyOrders_refl
    · split
      · exact Ctl.onlyOrders_trans (Ctl.onlyOrders_modOrder ..) (Ctl.onlyOrders_phaseStep ..)
      · exact c.onlyOrders_refl
  · unfold Ctl.resumeOrder Ctl.resumeJudge
    repeat' split
    all_goals first
      | exact Ctl.onlyOrders_refl _
      | exact Ctl.onlyOrders_endFlow ..

/-- R81: the resume touches the sequencer, the valves and the notices alone. -/
theorem Ctl.onlyOrders_resume (c : Ctl) : c.onlyOrders c.resume := by
  unfold Ctl.resume
  split
  · exact Ctl.onlyOrders_trans (Ctl.onlyOrders_seq c _) (Ctl.onlyOrders_trans
      (Ctl.onlyOrders_foldl _ Ctl.onlyOrders_resumeOrder _ _) (Ctl.onlyOrders_startingRule _))
  · exact c.onlyOrders_refl

theorem Ctl.onlyOrders_removeNaming (fuel : Nat) (h : HolderId) (c : Ctl) :
    c.onlyOrders (Ctl.removeNaming fuel h c) := by
  induction fuel generalizing c with
  | zero => exact c.onlyOrders_refl
  | succ n ih =>
    unfold Ctl.removeNaming
    split
    · exact c.onlyOrders_refl
    · exact Ctl.onlyOrders_trans (Ctl.onlyOrders_recordEnd ..) (ih _)

theorem Ctl.onlyOrders_removeAllOrders (c : Ctl) : c.onlyOrders c.removeAllOrders :=
  Ctl.onlyOrders_foldl _ (fun _ _ => Ctl.onlyOrders_recordEnd ..) _ _

end Sys2Proof.Machine
end

