-- ==== Sys2Proof/Laws/Minute.lean ====
section
/-! SUPPORT. What the Programme Unit with the Telemetry Poller's arbiter, and the Accounts Unit, can touch at a minute event
or a close: everything else of the controller is as it was. -/

namespace Sys2Proof.Machine

/-! ### The Programme Unit and the arbiter -/

/-- The controller t comes from c by the districts' records, the telemetry line and posted notices alone. -/
def Ctl.onlyDistricts (c t : Ctl) : Prop :=
  t = { c with districts := t.districts, line := t.line, pass := t.pass, office := t.office } ∧
    t.office.samePosts c.office

theorem Ctl.onlyDistricts_refl (c : Ctl) : c.onlyDistricts c := ⟨rfl, rfl⟩

theorem Ctl.onlyDistricts_trans {a b d : Ctl} (ab : a.onlyDistricts b) (bd : b.onlyDistricts d) : a.onlyDistricts d := by
  obtain ⟨e1, p1⟩ := ab
  obtain ⟨e2, p2⟩ := bd
  refine ⟨?_, Office.samePosts_trans p2 p1⟩
  rw [e1] at e2
  exact e2

theorem Ctl.onlyDistricts_post (c : Ctl) (n : NoticeContent) : c.onlyDistricts (c.post n) :=
  ⟨by rw [Ctl.post_eq], c.post_samePosts n⟩

theorem Ctl.onlyDistricts_put (c : Ctl) (d : DistrictId) (r : Option DistrictRec) :
    c.onlyDistricts (c.putDistrict d r) := ⟨rfl, rfl⟩

theorem Ctl.onlyDistricts_mod (c : Ctl) (d : DistrictId) (f : DistrictRec → DistrictRec) :
    c.onlyDistricts (c.modDistrict d f) := ⟨rfl, rfl⟩

theorem Ctl.onlyDistricts_start (c : Ctl) (v : Served) (a : Nat) (f : TeleFunction) :
    c.onlyDistricts (c.startExchange v a f) := ⟨rfl, rfl⟩

theorem Ctl.onlyDistricts_foldl {α : Type} (f : Ctl → α → Ctl) (step : ∀ (c : Ctl) (a : α), c.onlyDistricts (f c a))
    (l : List α) (c : Ctl) : c.onlyDistricts (l.foldl f c) := by
  induction l generalizing c with
  | nil => exact c.onlyDistricts_refl
  | cons a l ih => exact Ctl.onlyDistricts_trans (step c a) (ih _)

/-- R130: the arbiter touches the districts' station records, the line and the pass-through alone. -/
theorem Ctl.onlyDistricts_arbiter (c : Ctl) : c.onlyDistricts c.arbiter := by
  unfold Ctl.arbiter
  repeat' split
  all_goals first
    | exact c.onlyDistricts_refl
    | exact ⟨rfl, rfl⟩

/-- R130: a busy line keeps its exchange. -/
theorem Ctl.arbiter_busy {c : Ctl} (busy : c.line.isSome = true) : c.arbiter = c := by
  simp [Ctl.arbiter, busy]

theorem Ctl.onlyDistricts_postWrite (c : Ctl) (d : DistrictId) (v : Nat) : c.onlyDistricts (c.postWrite d v) :=
  Ctl.onlyDistricts_trans (Ctl.onlyDistricts_mod c d _) (Ctl.onlyDistricts_arbiter _)

theorem Ctl.onlyDistricts_starve (c : Ctl) (h : HolderId) : c.onlyDistricts (c.starve h) := by
  refine Ctl.onlyDistricts_foldl _ (fun c d => ?_) _ _
  unfold Ctl.starveDistrict Ctl.releaseNotice
  dsimp only
  repeat' split
  all_goals first
    | exact c.onlyDistricts_refl
    | exact Ctl.onlyDistricts_trans (Ctl.onlyDistricts_trans (c.onlyDistricts_put d _) (Ctl.onlyDistricts_post _ _))
        (Ctl.onlyDistricts_post _ _)
    | exact Ctl.onlyDistricts_trans (c.onlyDistricts_put d _) (Ctl.onlyDistricts_post _ _)

theorem Ctl.onlyDistricts_outletRestored (c : Ctl) (h : HolderId) : c.onlyDistricts (c.outletRestored h) := by
  refine Ctl.onlyDistricts_foldl _ (fun c d => ?_) _ _
  unfold Ctl.restoreDistrict
  dsimp only
  repeat' split
  all_goals first
    | exact c.onlyDistricts_refl
    | exact Ctl.onlyDistricts_trans (Ctl.onlyDistricts_mod c d _) (Ctl.onlyDistricts_post _ _)

theorem Ctl.onlyDistricts_programmeMinute (c : Ctl) (d : DistrictId) : c.onlyDistricts (c.programmeMinute d) := by
  unfold Ctl.programmeMinute Ctl.runningMinute Ctl.stepEndNotices
  dsimp only
  repeat' split
  all_goals first
    | exact c.onlyDistricts_refl
    | exact Ctl.onlyDistricts_mod c d _
    | exact Ctl.onlyDistricts_trans (Ctl.onlyDistricts_mod c d _) (Ctl.onlyDistricts_post _ _)
    | exact Ctl.onlyDistricts_trans (Ctl.onlyDistricts_trans (Ctl.onlyDistricts_mod c d _) (Ctl.onlyDistricts_post _ _))
        (Ctl.onlyDistricts_post _ _)

theorem Ctl.onlyDistricts_writeStep8 (c : Ctl) (d : DistrictId) (r : DistrictRec) (e : Nat) :
    c.onlyDistricts (c.writeStep8 d r e) := by
  unfold Ctl.writeStep8
  split
  · exact Ctl.onlyDistricts_trans (c.onlyDistricts_put d _) (Ctl.onlyDistricts_postWrite _ _ _)
  · exact Ctl.onlyDistricts_trans (c.onlyDistricts_put d _) (Ctl.onlyDistricts_mod _ d _)
  · exact c.onlyDistricts_put d _

theorem Ctl.onlyDistricts_minutesWork (c : Ctl) (d : DistrictId) : c.onlyDistricts (c.minutesWork d) := by
  unfold Ctl.minutesWork
  dsimp only
  repeat' split
  all_goals first
    | exact c.onlyDistricts_refl
    | exact Ctl.onlyDistricts_trans (c.onlyDistricts_writeStep8 d _ _)
        (Ctl.onlyDistricts_foldl _ (fun c _ => c.onlyDistricts_post _) _ _)

/-- R100, R109: the minute event at the Programme Unit touches the districts, the line and the notices alone. -/
theorem Ctl.onlyDistricts_programmesMinute (c : Ctl) : c.onlyDistricts c.programmesMinute :=
  Ctl.onlyDistricts_foldl _
    (fun c d => Ctl.onlyDistricts_trans (c.onlyDistricts_programmeMinute d) (Ctl.onlyDistricts_minutesWork _ d)) _ _

/-- R109: what the minute's work keeps of a record: its definition, programme and confirmed set-point. -/
theorem DistrictRec.work_keeps (r : DistrictRec) (main : Nat) :
    (r.work main).record.prog = r.prog ∧ (r.work main).record.defn = r.defn ∧
      (r.work main).record.confirmed = r.confirmed := by
  have learn : ∀ q : DistrictRec, (q.learn main).prog = q.prog ∧ (q.learn main).defn = q.defn ∧
      (q.learn main).confirmed = q.confirmed := fun q => by
    unfold DistrictRec.learn
    repeat' split
    all_goals exact ⟨rfl, rfl, rfl⟩
  have booster : ∀ (q : DistrictRec) (x : Nat), (q.boosterStep x).1.prog = q.prog ∧ (q.boosterStep x).1.defn = q.defn ∧
      (q.boosterStep x).1.confirmed = q.confirmed := fun q x => by
    unfold DistrictRec.boosterStep DistrictRec.judgeBooster
    dsimp only
    repeat' split
    all_goals exact ⟨rfl, rfl, rfl⟩
  have low : ∀ q : DistrictRec, q.lowStep.1.prog = q.prog ∧ q.lowStep.1.defn = q.defn ∧
      q.lowStep.1.confirmed = q.confirmed := fun q => by
    unfold DistrictRec.lowStep DistrictRec.checkLow
    dsimp only
    repeat' split
    all_goals exact ⟨rfl, rfl, rfl⟩
  unfold DistrictRec.work
  dsimp only
  refine ⟨?_, ?_, ?_⟩
  · rw [(low _).1]
    exact (booster _ _).1.trans (learn _).1
  · rw [(low _).2.1]
    exact (booster _ _).2.1.trans (learn _).2.1
  · rw [(low _).2.2]
    exact (booster _ _).2.2.trans (learn _).2.2

/-! ### The Accounts Unit -/

/-- The controller t comes from c by the accounts, the holders' disturbed marks, the districts' first slots and posted
notices alone. -/
def Ctl.onlyAccounts (c t : Ctl) : Prop :=
  t = { c with acc := t.acc, holders := t.holders, districts := t.districts, office := t.office } ∧
    t.office.samePosts c.office

theorem Ctl.onlyAccounts_refl (c : Ctl) : c.onlyAccounts c := ⟨rfl, rfl⟩

theorem Ctl.onlyAccounts_trans {a b d : Ctl} (ab : a.onlyAccounts b) (bd : b.onlyAccounts d) : a.onlyAccounts d := by
  obtain ⟨e1, p1⟩ := ab
  obtain ⟨e2, p2⟩ := bd
  refine ⟨?_, Office.samePosts_trans p2 p1⟩
  rw [e1] at e2
  exact e2

theorem Ctl.onlyAccounts_post (c : Ctl) (n : NoticeContent) : c.onlyAccounts (c.post n) :=
  ⟨by rw [Ctl.post_eq], c.post_samePosts n⟩

theorem Ctl.onlyAccounts_acc {c t : Ctl} (ct : c.onlyAccounts t) (a : Accounts) : c.onlyAccounts { t with acc := a } :=
  Ctl.onlyAccounts_trans ct ⟨rfl, rfl⟩

theorem Ctl.onlyAccounts_posted {c t : Ctl} (ct : c.onlyAccounts t) (n : NoticeContent) : c.onlyAccounts (t.post n) :=
  Ctl.onlyAccounts_trans ct (Ctl.onlyAccounts_post t n)

theorem Ctl.onlyAccounts_foldl {α : Type} (f : Ctl → α → Ctl) (step : ∀ (c : Ctl) (a : α), c.onlyAccounts (f c a))
    (l : List α) (c : Ctl) : c.onlyAccounts (l.foldl f c) := by
  induction l generalizing c with
  | nil => exact c.onlyAccounts_refl
  | cons a l ih => exact Ctl.onlyAccounts_trans (step c a) (ih _)

theorem Ctl.onlyAccounts_takeMeters (c : Ctl) : c.onlyAccounts c.takeMeters := by
  refine Ctl.onlyAccounts_foldl _ (fun c d => ?_) _ _
  unfold Ctl.takeMeter
  dsimp only
  repeat' split
  all_goals exact ⟨rfl, rfl⟩

theorem Ctl.onlyAccounts_clearDisturbed (c : Ctl) (l : List HolderId) : c.onlyAccounts (c.clearDisturbed l) :=
  Ctl.onlyAccounts_foldl (fun c h => c.modHolder h fun r => { r with disturbed := false }) (fun _ _ => ⟨rfl, rfl⟩) l c

theorem Ctl.onlyAccounts_closeHour (c : Ctl) (cause : CloseCause) (l : List HolderId) (o : Opening) :
    c.onlyAccounts (c.closeHour cause l o) := by
  have marks := c.onlyAccounts_clearDisturbed l
  unfold Ctl.closeHour
  apply Ctl.onlyAccounts_acc
  apply Ctl.onlyAccounts_posted
  exact Ctl.onlyAccounts_trans marks ⟨rfl, rfl⟩

theorem Ctl.onlyAccounts_closeDay (c : Ctl) (cause : CloseCause) (o : Opening) :
    c.onlyAccounts (c.closeDay cause o) :=
  Ctl.onlyAccounts_acc (Ctl.onlyAccounts_posted (t := c.storeDay _) ⟨rfl, rfl⟩ _) _

/-- R149: an early close touches the accounts, the disturbed marks, the first slots and the notices alone. -/
theorem Ctl.onlyAccounts_closeEarly (c : Ctl) (cause : CloseCause) (l : List HolderId) (o : Opening) (day : Bool) :
    c.onlyAccounts (c.closeEarly cause l o day) := by
  have hour := Ctl.onlyAccounts_trans c.onlyAccounts_takeMeters (Ctl.onlyAccounts_closeHour _ cause l o)
  unfold Ctl.closeEarly
  dsimp only
  split
  · exact Ctl.onlyAccounts_trans hour (Ctl.onlyAccounts_closeDay _ cause o)
  · exact hour

/-- R148: the minute event at the Accounts Unit touches no more. -/
theorem Ctl.onlyAccounts_accountsMinute (c : Ctl) : c.onlyAccounts c.accountsMinute := by
  have start : c.onlyAccounts c.takeDayStart.countDurations.takeMeters.formOpening := by
    refine Ctl.onlyAccounts_trans (b := c.takeDayStart.countDurations) ⟨rfl, rfl⟩
      (Ctl.onlyAccounts_trans (Ctl.onlyAccounts_takeMeters _) ?_)
    unfold Ctl.formOpening
    split <;> exact ⟨rfl, rfl⟩
  have hour : c.onlyAccounts (if wholeHour c.takeDayStart.countDurations.takeMeters.formOpening.clock.minute then
      c.takeDayStart.countDurations.takeMeters.formOpening.closeHour .regular
        c.takeDayStart.countDurations.takeMeters.formOpening.definedHolders
        c.takeDayStart.countDurations.takeMeters.formOpening.openingNow
      else c.takeDayStart.countDurations.takeMeters.formOpening) := by
    split
    · exact Ctl.onlyAccounts_trans start (Ctl.onlyAccounts_closeHour ..)
    · exact start
  have day : ∀ t : Ctl, c.onlyAccounts t → c.onlyAccounts
      (if dayStarts t.clock.minute t.acc.dayStart then t.closeDay .regular t.openingNow else t) := fun t ct => by
    split
    · exact Ctl.onlyAccounts_trans ct (Ctl.onlyAccounts_closeDay ..)
    · exact ct
  exact day _ hour

end Sys2Proof.Machine
end

