-- ==== Sys2Proof/WellFormed.lean ====
section
/-! DEFINITION. Which commands the lines and the store can deliver. The meanings are total and do not rest on it. -/

namespace Sys2Proof

/-- R200: a frame's body holds 0..240 bytes. -/
def bodyFits (body : List Byte) : Bool := body.length ≤ Config.bodyMax

/-- R183: a bad record is one whose check does not agree. -/
def BrokenOff.wf : BrokenOff → Bool
  | .bad stored computed => stored != computed
  | .asBefore => true
  | .asAfter => true

/-- R188: a record that neither reads back erased nor verifies a rewrite is bad, so its checks differ. -/
def ClearReadBack.wf (c : ClearReadBack) : Bool :=
  (c.erased && c.rewriteVerified) || c.stored != c.computed

def PerHolder.allOf {α : Type} (p : PerHolder α) (f : α → Bool) : Bool := f p.h1 && f p.h2 && f p.h3 && f p.h4

def PerDistrict.allOf {α : Type} (p : PerDistrict α) (f : α → Bool) : Bool := f p.d1 && f p.d2 && f p.d3

def PerRecord.allOf {α : Type} (p : PerRecord α) (f : α → Bool) : Bool :=
  f p.identity && f p.yard && p.holders.allOf f && p.districts.allOf f

/-- The commands that the office line, the store and the supply can deliver. -/
def Instr.wellFormed : Instr → Bool
  | .identify _ b | .setWorksIdentity _ b | .defineYard _ b | .storeClear _ b | .restart _ b | .setClock _ b
  | .defineHolder _ b | .removeHolder _ b | .setBands _ b | .holderStatus _ b | .submitOrder _ b | .cancelOrder _ b
  | .orderList _ b | .ordersHold _ b | .ordersResume _ b | .defineDistrict _ b | .removeDistrict _ b
  | .districtStatus _ b | .writeStep _ b | .readStep _ b | .setLastStep _ b | .programmeRun _ b | .programmePause _ b
  | .programmeClear _ b | .setRepeat _ b | .stationStatus _ b | .clearStationMarks _ b | .stationPass _ b
  | .readHourRecord _ b | .readDayRecord _ b | .rewindHours _ b | .rewindDays _ b | .runningTotals _ b
  | .readFault _ b | .clearFault _ b | .yardStatus _ b | .noticesOn _ b | .noticesOff _ b => bodyFits b
  | .receiveByte _ _ => true
  | .gapTimerExpiry => true
  | .transmitFrame => true
  | .officeFrameSent => true
  | .storeOperationDone _ => true
  | .storeRollbackDone verified stored computed => verified || stored != computed
  | .storeClearErasuresDone found => found.allOf ClearReadBack.wf
  | .holderSample _ _ _ _ => true
  | .barometerSample _ => true
  | .faultTaken _ => true
  | .limitEvent _ _ _ _ => true
  | .valveTravelTimeout _ _ => true
  | .makePulse => true
  | .makeFlowingExpiry => true
  | .minuteEvent => true
  | .stationReadDue _ => true
  | .telemetryQuietEnd => true
  | .telemetryTransmitDone => true
  | .telemetryByteReceived _ => true
  | .replyWindowExpiry => true
  | .resetPulseStart => true
  | .resetPulseEnd => true
  | .resetPulseLong => true
  | .warmRestartBegin => true
  | .powerUp _ _ broken => broken.allOf BrokenOff.wf
  | .yardClockSecond => true

end Sys2Proof
end

