-- ==== Sys2Proof/Laws/PerInstr.lean ====
section
/-! SUPPORT. The statements about every command, made constructor by constructor: what the well-formedness of a command
says of its body. -/

namespace Sys2Proof.Laws

/-- R200, R203: a request command is of an assigned kind, and it is well formed exactly where its body fits a frame. -/
def RequestBody.Statement (i : Instr) : Prop :=
  match i.request? with
  | some (kind, _, body) =>
    i.wellFormed = decide (body.length ≤ 240) ∧ (Machine.admittedLengths kind.toNat).isSome = true
  | none => True

theorem RequestBody.identify (tag : Byte) (body : List Byte) :
    RequestBody.Statement (.identify tag body) := ⟨rfl, rfl⟩
theorem RequestBody.setWorksIdentity (tag : Byte) (body : List Byte) :
    RequestBody.Statement (.setWorksIdentity tag body) := ⟨rfl, rfl⟩
theorem RequestBody.defineYard (tag : Byte) (body : List Byte) :
    RequestBody.Statement (.defineYard tag body) := ⟨rfl, rfl⟩
theorem RequestBody.storeClear (tag : Byte) (body : List Byte) :
    RequestBody.Statement (.storeClear tag body) := ⟨rfl, rfl⟩
theorem RequestBody.restart (tag : Byte) (body : List Byte) :
    RequestBody.Statement (.restart tag body) := ⟨rfl, rfl⟩
theorem RequestBody.setClock (tag : Byte) (body : List Byte) :
    RequestBody.Statement (.setClock tag body) := ⟨rfl, rfl⟩
theorem RequestBody.defineHolder (tag : Byte) (body : List Byte) :
    RequestBody.Statement (.defineHolder tag body) := ⟨rfl, rfl⟩
theorem RequestBody.removeHolder (tag : Byte) (body : List Byte) :
    RequestBody.Statement (.removeHolder tag body) := ⟨rfl, rfl⟩
theorem RequestBody.setBands (tag : Byte) (body : List Byte) :
    RequestBody.Statement (.setBands tag body) := ⟨rfl, rfl⟩
theorem RequestBody.holderStatus (tag : Byte) (body : List Byte) :
    RequestBody.Statement (.holderStatus tag body) := ⟨rfl, rfl⟩
theorem RequestBody.submitOrder (tag : Byte) (body : List Byte) :
    RequestBody.Statement (.submitOrder tag body) := ⟨rfl, rfl⟩
theorem RequestBody.cancelOrder (tag : Byte) (body : List Byte) :
    RequestBody.Statement (.cancelOrder tag body) := ⟨rfl, rfl⟩
theorem RequestBody.orderList (tag : Byte) (body : List Byte) :
    RequestBody.Statement (.orderList tag body) := ⟨rfl, rfl⟩
theorem RequestBody.ordersHold (tag : Byte) (body : List Byte) :
    RequestBody.Statement (.ordersHold tag body) := ⟨rfl, rfl⟩
theorem RequestBody.ordersResume (tag : Byte) (body : List Byte) :
    RequestBody.Statement (.ordersResume tag body) := ⟨rfl, rfl⟩
theorem RequestBody.defineDistrict (tag : Byte) (body : List Byte) :
    RequestBody.Statement (.defineDistrict tag body) := ⟨rfl, rfl⟩
theorem RequestBody.removeDistrict (tag : Byte) (body : List Byte) :
    RequestBody.Statement (.removeDistrict tag body) := ⟨rfl, rfl⟩
theorem RequestBody.districtStatus (tag : Byte) (body : List Byte) :
    RequestBody.Statement (.districtStatus tag body) := ⟨rfl, rfl⟩
theorem RequestBody.writeStep (tag : Byte) (body : List Byte) :
    RequestBody.Statement (.writeStep tag body) := ⟨rfl, rfl⟩
theorem RequestBody.readStep (tag : Byte) (body : List Byte) :
    RequestBody.Statement (.readStep tag body) := ⟨rfl, rfl⟩
theorem RequestBody.setLastStep (tag : Byte) (body : List Byte) :
    RequestBody.Statement (.setLastStep tag body) := ⟨rfl, rfl⟩
theorem RequestBody.programmeRun (tag : Byte) (body : List Byte) :
    RequestBody.Statement (.programmeRun tag body) := ⟨rfl, rfl⟩
theorem RequestBody.programmePause (tag : Byte) (body : List Byte) :
    RequestBody.Statement (.programmePause tag body) := ⟨rfl, rfl⟩
theorem RequestBody.programmeClear (tag : Byte) (body : List Byte) :
    RequestBody.Statement (.programmeClear tag body) := ⟨rfl, rfl⟩
theorem RequestBody.setRepeat (tag : Byte) (body : List Byte) :
    RequestBody.Statement (.setRepeat tag body) := ⟨rfl, rfl⟩
theorem RequestBody.stationStatus (tag : Byte) (body : List Byte) :
    RequestBody.Statement (.stationStatus tag body) := ⟨rfl, rfl⟩
theorem RequestBody.clearStationMarks (tag : Byte) (body : List Byte) :
    RequestBody.Statement (.clearStationMarks tag body) := ⟨rfl, rfl⟩
theorem RequestBody.stationPass (tag : Byte) (body : List Byte) :
    RequestBody.Statement (.stationPass tag body) := ⟨rfl, rfl⟩
theorem RequestBody.readHourRecord (tag : Byte) (body : List Byte) :
    RequestBody.Statement (.readHourRecord tag body) := ⟨rfl, rfl⟩
theorem RequestBody.readDayRecord (tag : Byte) (body : List Byte) :
    RequestBody.Statement (.readDayRecord tag body) := ⟨rfl, rfl⟩
theorem RequestBody.rewindHours (tag : Byte) (body : List Byte) :
    RequestBody.Statement (.rewindHours tag body) := ⟨rfl, rfl⟩
theorem RequestBody.rewindDays (tag : Byte) (body : List Byte) :
    RequestBody.Statement (.rewindDays tag body) := ⟨rfl, rfl⟩
theorem RequestBody.runningTotals (tag : Byte) (body : List Byte) :
    RequestBody.Statement (.runningTotals tag body) := ⟨rfl, rfl⟩
theorem RequestBody.readFault (tag : Byte) (body : List Byte) :
    RequestBody.Statement (.readFault tag body) := ⟨rfl, rfl⟩
theorem RequestBody.clearFault (tag : Byte) (body : List Byte) :
    RequestBody.Statement (.clearFault tag body) := ⟨rfl, rfl⟩
theorem RequestBody.yardStatus (tag : Byte) (body : List Byte) :
    RequestBody.Statement (.yardStatus tag body) := ⟨rfl, rfl⟩
theorem RequestBody.noticesOn (tag : Byte) (body : List Byte) :
    RequestBody.Statement (.noticesOn tag body) := ⟨rfl, rfl⟩
theorem RequestBody.noticesOff (tag : Byte) (body : List Byte) :
    RequestBody.Statement (.noticesOff tag body) := ⟨rfl, rfl⟩
theorem RequestBody.receiveByte (b : Byte) (e : Bool) : RequestBody.Statement (.receiveByte b e) := trivial
theorem RequestBody.gapTimerExpiry : RequestBody.Statement .gapTimerExpiry := trivial
theorem RequestBody.transmitFrame : RequestBody.Statement .transmitFrame := trivial
theorem RequestBody.officeFrameSent : RequestBody.Statement .officeFrameSent := trivial
theorem RequestBody.storeOperationDone (v : Bool) : RequestBody.Statement (.storeOperationDone v) := trivial
theorem RequestBody.storeRollbackDone (v : Bool) (a b : Check) : RequestBody.Statement (.storeRollbackDone v a b) := trivial
theorem RequestBody.storeClearErasuresDone (f : PerRecord ClearReadBack) : RequestBody.Statement (.storeClearErasuresDone f) := trivial
theorem RequestBody.holderSample (h : HolderId) (a b c : Code) : RequestBody.Statement (.holderSample h a b c) := trivial
theorem RequestBody.barometerSample (a : Code) : RequestBody.Statement (.barometerSample a) := trivial
theorem RequestBody.faultTaken (n : Nat) : RequestBody.Statement (.faultTaken n) := trivial
theorem RequestBody.limitEvent (h : HolderId) (s : Side) (w : Switch) (m : Bool) : RequestBody.Statement (.limitEvent h s w m) := trivial
theorem RequestBody.valveTravelTimeout (h : HolderId) (s : Side) : RequestBody.Statement (.valveTravelTimeout h s) := trivial
theorem RequestBody.makePulse : RequestBody.Statement .makePulse := trivial
theorem RequestBody.makeFlowingExpiry : RequestBody.Statement .makeFlowingExpiry := trivial
theorem RequestBody.minuteEvent : RequestBody.Statement .minuteEvent := trivial
theorem RequestBody.stationReadDue (d : DistrictId) : RequestBody.Statement (.stationReadDue d) := trivial
theorem RequestBody.telemetryQuietEnd : RequestBody.Statement .telemetryQuietEnd := trivial
theorem RequestBody.telemetryTransmitDone : RequestBody.Statement .telemetryTransmitDone := trivial
theorem RequestBody.telemetryByteReceived (b : Byte) : RequestBody.Statement (.telemetryByteReceived b) := trivial
theorem RequestBody.replyWindowExpiry : RequestBody.Statement .replyWindowExpiry := trivial
theorem RequestBody.resetPulseStart : RequestBody.Statement .resetPulseStart := trivial
theorem RequestBody.resetPulseEnd : RequestBody.Statement .resetPulseEnd := trivial
theorem RequestBody.resetPulseLong : RequestBody.Statement .resetPulseLong := trivial
theorem RequestBody.warmRestartBegin : RequestBody.Statement .warmRestartBegin := trivial
theorem RequestBody.powerUp (v : OfficeSpeed) (l : PerHolder HolderLimits) (b : PerRecord BrokenOff) : RequestBody.Statement (.powerUp v l b) := trivial
theorem RequestBody.yardClockSecond : RequestBody.Statement .yardClockSecond := trivial

end Sys2Proof.Laws
end

