-- ==== Sys2Proof/Tests/Slice0.lean ====
section
/-! SUPPORT. Tests: ill-formed commands refused, the manual's worked figures (the source of every expected value is named),
one step each, and a concrete state for the hypotheses of every statement. -/

namespace Sys2Proof.Tests

open Machine

-- One theorem after another: each waits for the kernel, and many that wait at once need many threads.
set_option Elab.async false

/-! ### Ill-formed commands (R183, R188, R200) -/

theorem test_body_of_241_refused : (Instr.identify 0 (List.replicate 241 0)).wellFormed = false := by decide +kernel
theorem test_body_of_240_accepted : (Instr.identify 0 (List.replicate 240 0)).wellFormed = true := by decide +kernel

/-- R183: a bad record's two checks differ. -/
theorem test_broken_off_with_agreeing_checks_refused : (BrokenOff.bad 5 5).wf = false := by decide

theorem test_power_up_with_agreeing_checks_refused :
    (Instr.powerUp .baud9600 ⟨noLimits, noLimits, noLimits, noLimits⟩
      ⟨.asBefore, .bad 1 1, ⟨.asAfter, .asAfter, .asAfter, .asAfter⟩, ⟨.asAfter, .asAfter, .asAfter⟩⟩).wellFormed =
        false := by decide

theorem test_failed_rewrite_with_agreeing_checks_refused :
    (Instr.storeRollbackDone false 7 7).wellFormed = false := by decide

theorem test_clear_left_bad_with_agreeing_checks_refused : (ClearReadBack.mk false true 3 3).wf = false := by decide

/-! ### Bytes and checks (R201, R202) -/

/-- R202: over the nine characters 31h to 39h the method gives 29B1h. -/
theorem test_check_of_nine_digits :
    checkOf [0x31#8, 0x32#8, 0x33#8, 0x34#8, 0x35#8, 0x36#8, 0x37#8, 0x38#8, 0x39#8] = 0x29B1#16 := by decide +kernel

/-- R201: the yard minute of 17:00 on 14 November 2025 is sent as 00h CFh A2h 9Ch. -/
theorem test_yard_minute_sent : u32 13607580 = [0x00#8, 0xCF#8, 0xA2#8, 0x9C#8] := by decide +kernel

/-- R201: −850,000 is sent as FFh F3h 07h B0h, and −73 as FFh B7h. -/
theorem test_signed_fields_sent :
    s32 (-850000) = [0xFF#8, 0xF3#8, 0x07#8, 0xB0#8] ∧ s16 (-73) = [0xFF#8, 0xB7#8] := by decide +kernel

/-- R201: a slot without a value is the no-value code of its type alone; only a meter count, whose u24 has no such code, is led
by a presence mark. -/
theorem test_slot_bytes :
    Slot.bytes ⟨none, false, true⟩ optU16 = [0xFF#8, 0xFF#8, 0#8, 1#8] ∧
    Slot.bytes ⟨some 96, true, false⟩ optU8 = [96#8, 1#8, 0#8] ∧
    Slot.bytes ⟨some 16777215, true, false⟩ countBytes = [1#8, 0xFF#8, 0xFF#8, 0xFF#8, 1#8, 0#8] := by decide +kernel

/-- R143: 17:00 on 14 November 2025 is the yard minute 13,607,580. -/
theorem test_yard_minute_of_a_date :
    (parseSetClock [0x07#8, 0xE9#8, 11#8, 14#8, 17#8, 0#8, 0#8]).toOption.map CalendarTime.yardMinute =
      some 13607580 := by decide +kernel

/-! ### The holder of the manual (section 1.10) and a yard about it -/

/-- Section 1.10: the definition of H2. -/
def h2def : HolderDef :=
  { lifts := [⟨40000, 7000⟩, ⟨46000, 7000⟩], expected := [118, 148], landedVolume := 120000, span := 16380
    inletTime := 120, outletTime := 120, landingMargin := 500, topMargin := 300, tolerance := 20
    lowOffset := 767500, highOffset := 767500, mode := .follow }

/-- Both valves of a channel CLOSED. -/
def shut : HolderLimits := ⟨⟨false, true⟩, ⟨false, true⟩⟩

/-- H2 newly created, both valves CLOSED. -/
def h2 : HolderRec := createdHolder h2def shut

/-- H2 before the sample of section 1.10: its last accepted crown height is 9,498. -/
def h2fed : HolderRec :=
  { h2 with
    crown := ⟨some 9498, false, false⟩, pressure := ⟨some 146, false, false⟩, temperature := ⟨some 124, false, false⟩ }

/-- A district with a booster. -/
def d2def : DistrictDef :=
  { address := 11, minimum := 80, maximum := 150, lossAllowance := 20, booster := true, boosterLead := 5
    tolerance := 15, pulseWeight := 100, pollInterval := 60 }

/-- The district newly created. -/
def d2 : DistrictRec := createdDistrict d2def 0

/-- A yard with H2 and D2, the clock set. -/
def yard : Ctl :=
  { Ctl.reset with
    clock := { minute := 13607580, second := 0, isSet := true }, baro := { value := some 10020, lost := false }
    holders := ⟨none, some h2, none, none⟩, pins := ⟨shut, shut, shut, shut⟩
    districts := ⟨none, some d2, none⟩ }

/-- The yard with another record of H2. -/
def yardWith (r : HolderRec) : Ctl := { yard with holders := ⟨none, some r, none, none⟩ }

/-- The yard with another record of D2. -/
def yardOf (r : DistrictRec) : Ctl := { yard with districts := ⟨none, some r, none⟩ }

/-- No command waits behind. -/
def alone (c : Ctl) : State := ⟨[], c⟩

/-- The controller after a command, where it answers a next state. -/
def after (i : Instr) (c : Ctl) : Option Ctl :=
  match exec i (alone c) with
  | .next t => some t.ctl
  | .fault _ => none
  | .refused _ => none

/-! ### The gauge sample of section 1.10, and chapter 2 -/

/-- Section 1.10, stage 0: the codes 2375, 996, 1665 and 2088 convert to 9,500, 146, 124 and 10,020. -/
theorem test_codes_convert :
    h2def.readings ⟨2375#12, 996#12, 1665#12⟩ = ⟨some 9500, some 146, some 124⟩ ∧
      convertBarometer 2088#12 = some 10020 := by decide +kernel

/-- Section 1.10: the figures of the sample. -/
theorem test_sample_of_h2 :
    ((after (.holderSample .h2 2375#12 996#12 1665#12) (yardWith h2fed)).bind fun c =>
      (c.holders.get .h2).bind HolderRec.figures) =
    some { h := 9500, pg := 146, t := 124, baro := 10020, lifts := 2, swept := 4070000, factor := 66511
           stock := 4130551, capacity := 6231347, freeRoom := 2100796 } := by decide +kernel

/-- R10: a code of 99 reads LOST, and 100 does not. -/
theorem test_barometer_lost :
    ((after (.barometerSample 99#12) yard).map fun c => (c.baro.lost, c.faults.handed.length)) = some (true, 1) ∧
      ((after (.barometerSample 100#12) yard).map fun c => c.baro) = some ⟨some 9049, false⟩ := by decide +kernel

/-- R17: p_w at −73 is 36, and R18's smallest and largest factors. -/
theorem test_vapour_pressure : vapour (-73) = 36 := by decide +kernel

/-- Section 13.2: 10,720 against 10,260 is discarded and raises GAUGE JUMP; 10,258 is then accepted. -/
theorem test_crown_jump :
    crownTake ⟨some 10260, false, false⟩ [] (some 10720) = ⟨⟨some 10260, false, true⟩, [10720], some (10720, 10260)⟩ ∧
      crownTake ⟨some 10260, false, true⟩ [10720] (some 10258) = ⟨⟨some 10258, false, false⟩, [], none⟩ := by
  decide +kernel

/-- R25: with a landing margin of 500, Landed is set at 500 or less and cleared above 600; R26: with H_max 14,000 and a top
margin of 300, Top is set at 13,700 or more and cleared below 13,600. -/
theorem test_landed_and_top :
    landedAfter 500 500 false = true ∧ landedAfter 500 600 true = true ∧ landedAfter 500 601 true = false ∧
      topAfter 14000 300 13700 false = true ∧ topAfter 14000 300 13600 true = true ∧
      topAfter 14000 300 13599 true = false := by decide

/-! ### Valves and orders (chapters 3 and 4, section 13.5) -/

/-- R47: travel times of 120 s and 25 s give timeouts of 180 s and 37 s. -/
theorem test_travel_timeouts : travelTimeout 120 = 180 ∧ travelTimeout 25 = 37 := by decide

/-- H2 with its outlet OPEN. -/
def h2drawing : HolderRec :=
  { h2fed with
    figures := some { h := 9500, pg := 146, t := 124, baro := 10020, lifts := 2, swept := 4070000, factor := 66511
                      stock := 4130551, capacity := 6231347, freeRoom := 2100796 }
    conn := .drawing
    outlet := { h2.outlet with commanded := some .opened, state := .opened, limits := ⟨true, false⟩ } }

/-- R48: an inlet in OPENING that makes its open limit arrives OPEN. -/
theorem test_inlet_arrives :
    ((after (.limitEvent .h2 .inlet .openLimit true) (yardWith { h2 with inlet :=
      { h2.inlet with commanded := some .opened, state := .opening, limits := ⟨false, false⟩ } })).bind fun c =>
        (c.holders.get .h2).map fun r => r.inlet.state) = some .opened := by decide +kernel

/-- R49: an outlet whose travel timeout runs out is STUCK. -/
theorem test_outlet_sticks :
    ((after (.valveTravelTimeout .h2 .outlet) (yardWith { h2 with outlet :=
      { h2.outlet with commanded := some .opened, state := .opening, timeout := some 0 } })).map fun c =>
        (c.valveIn .h2 .outlet .stuck, c.faults.handed.length)) = some (true, 1) := by decide +kernel

/-- R47: a reversal that is taken first has set the timeout to its full 180 s again, and the timeout event queued behind
it, like one a second before zero, does not come. -/
theorem test_reversal_restarts_the_timeout :
    let due : ValveRec := { h2.outlet with commanded := some .opened, state := .opening, timeout := some 0 }
    let reversed := (due.take .closed (.order 1)).1
    let kept (v : ValveRec) : Bool :=
      after (.valveTravelTimeout .h2 .outlet) (yardWith { h2 with outlet := v }) = some (yardWith { h2 with outlet := v })
    (reversed.state, reversed.timeout) = (.closing, some 180) ∧ kept reversed ∧ kept { due with timeout := some 1 } ∧
      ¬ kept due := by decide +kernel

/-- R66, R69: a FILL of H2 to band is numbered 1 and opens the inlet. -/
theorem test_fill_starts :
    ((after (.submitOrder 9#8 [0#8, 2#8, 0#8, 60#8, 0#8]) yard).map fun c =>
      (c.seq.orders.map fun o => (o.number, o.phase), c.valveIn .h2 .inlet .opening)) =
    some ([(1, some .openingInlet)], true) := by decide +kernel

/-- R68: a DRAW of H2 to a target below its stock of 4,130,551 L runs; one to a target its stock has reached ends AT
TARGET at once. -/
theorem test_draw_at_target :
    ((after (.submitOrder 9#8 [1#8, 2#8, 0#8, 60#8, 0#8, 0#8, 0x3F#8, 0#8, 0#8]) (yardWith h2drawing)).map fun c =>
      (c.seq.orders.length, c.seq.ended.map EndRecord.reason)) = some (1, []) ∧
    ((after (.submitOrder 9#8 [1#8, 2#8, 0#8, 60#8, 0#8, 0#8, 0x40#8, 0#8, 0#8]) (yardWith h2drawing)).map fun c =>
      (c.seq.orders.length, c.seq.ended.map EndRecord.reason)) = some (0, [.atTarget]) := by decide +kernel

/-- R79: an order that is not in the list is NOT FOUND. -/
theorem test_cancel_not_found :
    ((after (.cancelOrder 4#8 [0#8, 7#8]) yard).map fun c => c.office.replies.map Reply.result) =
      some [.notFound] := by decide +kernel

/-! ### Districts (chapters 5 to 7, section 13.4) -/

/-- Section 13.4: 40 and 50 give 43, 43 and 50 give 45, 45 and 52 give 47, 47 and 40 give 45. -/
theorem test_learned_loss :
    learnedLoss 40 146 96 = 43 ∧ learnedLoss 43 146 96 = 45 ∧ learnedLoss 45 146 94 = 47 ∧
      learnedLoss 47 146 106 = 45 := by decide

/-- R100: a target 45 above S at a ramp of 5 is reached at the ninth minute and not before. -/
theorem test_ramp_of_five :
    (List.replicate 8 ()).foldl (fun s _ => rampToward s 125 5) 80 = 120 ∧
      (List.replicate 9 ()).foldl (fun s _ => rampToward s 125 5) 80 = 125 := by decide

/-- D2 RUNNING its step 0. -/
def d2running : DistrictRec :=
  { d2 with
    prog := { d2.prog with
      ring := some ⟨125, 5, 40, false, false⟩ :: List.replicate 15 none, last := some 0, remaining := 40, setPoint := 80
      state := .running } }

/-- R97, R100: the minute moves S by the ramp and counts the remaining time. -/
theorem test_minute_of_a_programme :
    ((after .minuteEvent { yardWith h2drawing with districts := ⟨none, some d2running, none⟩ }).bind fun c =>
      (c.districts.get .d2).map fun r => (r.prog.setPoint, r.prog.remaining, r.figures.map LastFigures.ceiling)) =
    some (85, 39, some 126) := by decide +kernel

/-- R151: the baseline 16,777,000 and the count 10,784 (mod 2^24) are 11,000 counts apart; section 13.2: D3's baseline moves
from 5,128,600 to 5,189,600 over 61,000 counts. -/
theorem test_meter_wraps : meterAdvance 16777000 10784 = 11000 ∧ meterAdvance 5128600 5189600 = 61000 := by decide

/-- A READ POINTS exchange of D2 whose window holds all but the last byte of a reply. -/
def reading (last : Nat) : Ctl :=
  { yard with
    line := some
      { served := .district .d2, address := 11, function := .readPoints, attempt := 1,
        period := .window ((telemetryFrame 11 1 (u24 5189600 ++ u16 95 ++ u8 40 ++ u16 106)).take last),
        settings := { speed := 1200, quiet := 10, window := 400 }, since := 0, orphan := false } }

/-- R132: a good reply writes the slots and leaves the station RESPONDING. -/
theorem test_reply_taken :
    ((telemetryFrame 11 1 (u24 5189600 ++ u16 95 ++ u8 40 ++ u16 106))[13]?.bind fun b =>
      (after (.telemetryByteReceived b) (reading 13)).bind fun c => (c.station .d2).map fun s =>
        (s.state, s.slot0.value, s.slot3.value)) = some (.responding, some 5189600, some 106) := by decide +kernel

/-! ### The clock, the accounts and the office (chapters 8 and 9) -/

/-- R144: 18:00 instead of 17:00 closes the hour and leaves the day. -/
theorem test_set_clock_closes_the_hour :
    ((after (.setClock 1#8 [0x07#8, 0xE9#8, 11#8, 14#8, 18#8, 0#8, 0#8]) yard).map fun c =>
      (c.clock.minute, c.acc.hour.number, c.acc.day.number)) = some (13607640, 2, 1) := by decide +kernel

/-- R148: the minute event at 18:00 closes the hour. -/
theorem test_whole_hour_closes :
    ((after .minuteEvent { yard with clock := { minute := 13607639, second := 59, isSet := true } }).map fun c =>
      (c.clock.minute, c.acc.hours.map HourRecord.number, c.acc.hour.start)) =
    some (13607640, [1], 13607640) := by decide +kernel

/-- R150: a make pulse at the default weight of 100 L. -/
theorem test_make_pulse :
    ((after .makePulse yard).map fun c => (c.acc.hour.make, c.makeFlowing, c.makeTimer)) =
      some (100, true, some 60) := by decide +kernel

/-- R175, R200: the reply to NOTICES ON with tag 05h is a frame of kind 73h. -/
theorem test_reply_frame :
    ((after (.noticesOn 5#8 []) yard).bind fun c => (after .transmitFrame c).bind fun c =>
      c.office.sending.map fun f => f.bytes.take 5) = some [0xD2#8, 5#8, 0x73#8, 5#8, 0#8] := by decide +kernel

/-- R205, R206: the lengths of three notice bodies after their header of 5 bytes. -/
theorem test_notice_lengths :
    (NoticeContent.trip .h2 .landing 500 767500 0).bytes.length = 12 ∧
      (NoticeContent.step .d2 0 125 80 none).bytes.length = 7 ∧
      (NoticeContent.band .h2 Flags.clear Flags.clear 0 0 .follow 0).bytes.length = 16 := by decide +kernel

/-- No word of the table spells a command. -/
theorem test_no_word_spells_a_command : decodeTableWord 8 0 = none := by decide

/-! ### A concrete state for the hypotheses of every statement, clause by clause -/

/-- What a test says of a record, where there is one. -/
theorem of_all {α : Type} {o : Option α} {p : α → Prop} [DecidablePred p] (h : o.all (fun a => decide (p a)) = true) :
    ∀ x, o = some x → p x := by
  rintro x rfl
  simpa using h

/-- Below, a parser that answers: `toOption = some a` says `= .ok a`, and `isOk = false` that it answers an error. -/
theorem ok_of_toOption {α : Type} {x : Except Result α} {a : α} (h : x.toOption = some a) : x = .ok a := by
  cases x <;> cases h; rfl

/-- The office of a controller changed. -/
def withOffice (c : Ctl) (f : Office → Office) : Ctl := { c with office := f c.office }

/-- A reply, a notice and a first fault. -/
def aReply : Reply := { kind := 0x31#8, tag := 1#8, result := .done, content := .nothing }
def aNotice : Notice := { minute := 5, clockUnset := false, content := .trip .h2 .landing 500 767500 0 }
def aFault : FaultReport := { cause := .gaugeLost, object := .barometer, detail1 := some 99, detail2 := none }
def aFirst : FirstFault := { fault := aFault, minute := 5, clockUnset := false }

/-- A store operation in flight. -/
def yardStoring (work : StoreWork) (rollback : Bool) : Ctl :=
  { yard with
    office := { yard.office with outstanding := 1 }
    store := { yard.store with op := some { kind := 0x08#8, tag := 1#8, work := work, rollback := rollback } } }

theorem witness_admits : Ctl.reset.admits ∧ yard.admits ∧ (yardWith h2drawing).admits ∧ (yardOf d2running).admits ∧
    (withOffice yard fun o => { o with outstanding := 7 }).admits := by
  unfold Ctl.admits; decide +kernel

theorem witness_FramesAreClassified :
    ((0x00#8).toNat = 0 ∧ 0x40 ≤ (0x40#8).toNat) ∧
    (∀ k ∈ [0x07#8, 0x3F#8], 1 ≤ k.toNat ∧ k.toNat ≤ 0x3F ∧ ∀ e ∈ requestLengths, e.1 ≠ k.toNat) ∧
    ((0x08, 21, 59) ∈ requestLengths ∧ (List.replicate 20 0#8).length < 21 ∧ 59 < (List.replicate 60 0#8).length) := by
  decide +kernel

theorem witness_RequestsNotTaken :
    (Instr.clearFault 1#8 [2#8]).request? = some (0x31#8, 1#8, [2#8]) ∧ { yard with powered := false }.powered = false ∧
    (withOffice yard fun o => { o with restart := some ⟨none, true⟩ }).office.restart.isSome = true ∧
    8 ≤ (withOffice yard fun o => { o with outstanding := 8 }).office.outstanding := by decide +kernel

/-- The framer part of a body of a single byte: its last byte is good or not. -/
theorem witness_TheFramerTakesBytes :
    yard.powered = true ∧ yard.office.framer = .hunting ∧ ([1#8] : List Byte).length + 1 < 2 + 2 ∧
    (let kept := ((officeFrame 0x31#8 5#8 []).drop 2).take 3
     kept.length + 1 = 2 + 2 ∧ officeCheckGood 2 (kept ++ [0#8]) = false ∧
       officeCheckGood 2 (kept ++ ((officeFrame 0x31#8 5#8 []).drop 5)) = true ∧
       kept ++ ((officeFrame 0x31#8 5#8 []).drop 5) = 0x31#8 :: 5#8 :: (officeFrame 0x31#8 5#8 []).drop 4) := by
  decide +kernel

theorem witness_OfficeFramesAreHeard :
    yard.office.framer = .hunting ∧ (List.replicate 240 0#8).length ≤ 240 ∧
    [(checkBytes [2#8, 0x31#8, 5#8]).getD 0 0#8, (checkBytes [2#8, 0x31#8, 5#8]).getD 1 0#8] =
      checkBytes [2#8, 0x31#8, 5#8] ∧ [0#8, 0#8] ≠ checkBytes [2#8, 0x31#8, 5#8] := by decide +kernel

theorem witness_TheTransmitterSends :
    yard.powered = true ∧ yard.office.sending = none ∧ yard.office.replies = [] ∧ yard.office.queue = [] ∧
    yard.office.restart = none ∧
    (withOffice yard fun o => { o with sending := some (.reply aReply) }).office.sending = some (.reply aReply) ∧
    (withOffice yard fun o => { o with sending := some (.notice aNotice 255 true) }).office.sending.isSome = true ∧
    (withOffice yard fun o => { o with replies := [aReply] }).office.replies = aReply :: [] ∧
    (withOffice yard fun o => { o with queue := [aNotice] }).office.queue = aNotice :: [] ∧
    (withOffice yard fun o => { o with restart := some ⟨some 3#8, false⟩ }).office.restart.isSome = true := by
  decide +kernel

theorem witness_NoticesAreQueued :
    yard.office.gate = false ∧
    (∀ n ∈ [0, 15], (withOffice yard fun o => { o with gate := true, queue := List.replicate n aNotice }).office.gate =
      true ∧ (List.replicate n aNotice).length < 16) ∧ 16 ≤ (List.replicate 16 aNotice).length := by decide +kernel

theorem witness_StatusRequestsChangeNothing :
    holderOf (2#8).toNat = some .h2 ∧ yard.holders.get .h2 = some h2 ∧ districtOf (2#8).toNat = some .d2 ∧
    yard.districts.get .d2 = some d2 ∧ (0#8).toNat ≤ 15 ∧ (15#8).toNat ≤ 15 := by decide +kernel

theorem witness_IndicesAreChecked :
    (0#8).toNat = 0 ∧ 5 ≤ (5#8).toNat ∧ 4 ≤ (4#8).toNat ∧ holderOf (1#8).toNat = some .h1 ∧
    yard.holders.get .h1 = none ∧ districtOf (3#8).toNat = some .d3 ∧ yard.districts.get .d3 = none := by
  decide +kernel

/-- Two faults handed over, the record empty or filled. -/
def faulty (first : Option FirstFault) : Ctl :=
  { yard with faults := { first := first, further := false, handed := [aFault, { aFault with detail1 := some 0 }] } }

theorem witness_FaultsAreTaken :
    (faulty none).powered = true ∧ (faulty none).faults.handed.length ≤ 2 ∧
    (faulty none).faults.handed[0]? = some aFault ∧ ((faulty none).faults.handed[1]?).isSome = true ∧
    (faulty none).faults.first = none ∧ (faulty (some aFirst)).faults.first.isSome = true := by decide +kernel

theorem witness_TheFirstFaultIsKept :
    (faulty (some aFirst)).faults.first = some aFirst ∧ ∃ t, exec (.faultTaken 1) (alone (faulty (some aFirst))) = .next t :=
  ⟨rfl, _, rfl⟩

/-! Definitions -/

/-- A holder definition of one lift with no optional field: the shortest body. -/
def shortBody : List Byte :=
  [1#8, 1#8] ++ u32 40000 ++ u16 7000 ++ u16 118 ++ u32 120000 ++ u16 7000 ++ u16 10 ++ u16 600 ++ u8 0

/-- A holder definition of four lifts: the longest body. -/
def h4def : HolderDef :=
  { h2def with
    lifts := List.replicate 4 ⟨200000, 10000⟩, expected := [10, 10, 400, 400], span := 40000
    landedVolume := 2000000, tolerance := 100, lowOffset := 200000000, highOffset := 0, mode := .latch }

theorem witness_AcceptedHoldersAreConsistent :
    shortBody.length = 21 ∧ (holderBody 4 h4def).length = 59 ∧ (parseDefineHolder shortBody).isOk = true ∧
    (parseDefineHolder (holderBody 4 h4def)).toOption = some (.h4, h4def) := by decide +kernel

theorem witness_DefinitionBodiesReadBack :
    (h4def.fieldsInRange = true ∧ h4def.consistent = true ∧ h4def.expected.length = h4def.lifts.length ∧
      h4def.lowOffset ≤ 200000000 ∧ h4def.highOffset ≤ 200000000) ∧
    (d2def.fieldsInRange = true ∧ d2def.minimum < d2def.maximum) ∧
    ∀ y ∈ [YardDef.default, ⟨23, 1000, 2400, 2000, 50⟩, ⟨0, 1, 1200, 100, 0⟩],
      y.dayStart ≤ 23 ∧ weightFits y.pulseWeight = true ∧ (y.speed = 1200 ∨ y.speed = 2400) ∧
        within 100 2000 y.window = true ∧ y.quiet ≤ 50 := by decide +kernel

/-- An order that names H2. -/
def fillOfH2 : Order :=
  { number := 7, kind := .fill, holder := .h2, second := none, target := none, deadline := 60, endAction := some .close,
    phase := none, minutesRun := 0, arrivalPending := false, given := none }

/-- The yard with an order list. -/
def yardOrders (r : HolderRec) (orders : List Order) (held : Bool) : Ctl :=
  { yardWith r with seq := { yard.seq with orders := orders, held := held, nextNumber := 8 } }

theorem witness_HolderDefinitionsAreJudged :
    (within 21 59 (List.replicate 21 0#8).length = true ∧
      ((parseDefineHolder (List.replicate 21 0#8)).isOk = false)) ∧
    ((parseDefineHolder (holderBody 2 h2def)).toOption = some (.h2, h2def) ∧
      within 21 59 (holderBody 2 h2def).length = true) ∧
    (yardStoring .clear false).store.op.isSome = true ∧ yard.store.op = none ∧ yard.holders.get .h1 = none ∧
    yard.holders.get .h2 = some h2 ∧
    (h2.connection = .isolated ∧ h2.inlet.state = .closed ∧ h2.outlet.state = .closed ∧
      ∀ o ∈ yard.seq.orders, o.names .h2 = false) ∧
    ((yardWith h2drawing).holders.get .h2 = some h2drawing ∧ h2drawing.connection ≠ .isolated) ∧
    (fillOfH2.names .h2 = true ∧ fillOfH2 ∈ (yardOrders h2 [fillOfH2] true).seq.orders) ∧
    (within 3 11 [2#8, 0#8, 1#8].length = true ∧ (parseSetBands [2#8, 0#8, 1#8]).isOk = true ∧
      within 3 11 ([2#8, 3#8] ++ u32 0 ++ u32 200000000 ++ [0#8]).length = true ∧
      (parseSetBands ([2#8, 3#8] ++ u32 0 ++ u32 200000000 ++ [0#8])).toOption =
        some ⟨.h2, some 0, some 200000000, .follow⟩) ∧
    ((parseSetBands [5#8, 0#8, 1#8]).isOk = false ∧ 5 ≤ (5#8).toNat ∧ (0#8).toNat = 0 ∧ [1#8].length = 0 + 1 ∧
      4 ≤ (4#8).toNat ∧ 2 ≤ ([2#8].getLastD 0#8).toNat ∧ ([1#8, 1#8] : List Byte).length ≠ 0 + 1 ∧
      within 3 11 ([2#8, 0#8] ++ [1#8, 1#8]).length = true) ∧
    ((parseSetBands [1#8, 0#8, 1#8]).toOption = some ⟨.h1, none, none, .latch⟩ ∧ yard.holders.get .h1 = none) := by
  decide +kernel

/-- R33: SET BANDS of an index outside 1..4, of a holder not defined, and of H2. -/
theorem test_bands_of_no_holder :
    (([[5#8, 0#8, 1#8], [1#8, 0#8, 1#8]].map fun b => (after (.setBands 9#8 b) yard).map fun c =>
      c.office.replies.map Reply.result) = [some [.outOfRange], some [.notDefined]]) ∧
    ((after (.setBands 9#8 [2#8, 0#8, 1#8]) yard).map fun c => c.store.op.isSome) = some true := by decide +kernel

theorem witness_DistrictDefinitionsAreJudged :
    (within 12 15 (districtBody 2 d2def).length = true ∧
      (parseDefineDistrict (districtBody 2 d2def)).toOption = some (.d2, d2def) ∧
      (parseDefineDistrict (districtBody 1 d2def)).toOption = some (.d1, d2def)) ∧
    (within 12 15 ((districtBody 2 d2def).take 11 ++ [0#8]).length = true ∧
      (parseDefineDistrict ((districtBody 2 d2def).take 11 ++ [0#8])).isOk = true) ∧
    (∃ i r, i ≠ .d1 ∧ yard.districts.get i = some r ∧ r.defn.address = d2def.address) ∧
    (∀ i r, i ≠ .d2 → yard.districts.get i = some r → r.defn.address ≠ d2def.address) ∧
    (yard.districts.get .d2 = some d2 ∧ d2.prog.state = .idle) ∧
    ((yardOf d2running).districts.get .d2 = some d2running ∧ d2running.prog.state ≠ .idle ∧
      d2running.prog.state ≠ .paused) ∧ yard.store.op = none ∧
    (∀ b ∈ [districtBody 4 d2def, districtBody 2 { d2def with minimum := 150 }, districtBody 2 { d2def with address := 32 }],
      within 12 15 b.length = true ∧ b.length = 12 + 3 ∧ (b.getD 11 0#8).toNat = 3 ∧
        (parseDefineDistrict b).isOk = false) ∧
    (within 12 15 ((districtBody 2 d2def).take 14).length = true ∧ ((districtBody 2 d2def).take 14).length ≠ 12 + 3) := by
  refine ⟨by decide +kernel, by decide +kernel, ⟨.d2, d2, by decide, rfl, rfl⟩, ?_, by decide +kernel,
    by decide +kernel, rfl, by decide +kernel, by decide +kernel⟩
  intro i r hi hr
  cases i
  · cases hr
  · exact absurd rfl hi
  · cases hr

theorem witness_StoreRequestsAreJudged :
    ((parseDefineYard [0#8]).isOk = true ∧ within 1 9 [0#8].length = true ∧
      (parseDefineYard (yardBody YardDef.default)).toOption = some YardDef.default ∧
      within 1 9 (yardBody YardDef.default).length = true) ∧
    (∃ b ∈ [0x1F#8], b.toNat < 0x20 ∨ 0x7E < b.toNat) ∧ (∃ b ∈ [0x20#8, 0x7F#8], b.toNat < 0x20 ∨ 0x7E < b.toNat) ∧
    (∀ b ∈ [0x20#8, 0x7E#8], 0x20 ≤ b.toNat ∧ b.toNat ≤ 0x7E) ∧ (List.replicate 16 0x20#8).length ≤ 16 ∧
    { yard with identity := .isSet [0x41#8] }.identity ≠ .unset ∧ yard.identity = .unset ∧ yard.store.op = none ∧
    ((∀ h r, yard.holders.get h = some r →
        r.connection = .isolated ∧ r.inlet.state = .closed ∧ r.outlet.state = .closed) ∧
      (∀ d r, yard.districts.get d = some r → r.prog.state = .idle) ∧ yard.seq.orders = []) ∧
    (¬ ∀ d r, (yardOf d2running).districts.get d = some r → r.prog.state = .idle) ∧
    (∀ b ∈ [[32#8], [1#8, 24#8], [8#8, 7#8, 209#8]], within 1 9 b.length = true ∧ (parseDefineYard b).isOk = false) ∧
    (within 1 9 [1#8].length = true ∧ (parseDefineYard [1#8]).isOk = false ∧ (1#8).toNat / 2 ^ 0 % 2 = 1 ∧
      32 ≤ (32#8).toNat) := by
  refine ⟨by decide +kernel, by decide, by decide, by decide, by decide, by decide, rfl, rfl, ⟨?_, ?_, rfl⟩, ?_,
    by decide +kernel, by decide +kernel⟩
  · intro h
    exact of_all (by cases h <;> decide +kernel)
  · intro d
    exact of_all (by cases d <;> decide +kernel)
  · intro h
    exact absurd (h .d2 d2running rfl) (by decide)

theorem witness_SettingsWritesEnd :
    yard.powered = true ∧ yard.store.op = none ∧
    (∀ w ∈ [StoreWork.defineYard YardDef.default, .setIdentity [0x41#8], .setBands .h2 h2def, .clear], ∀ b ∈ [true, false],
      (yardStoring w b).powered = true ∧
        (yardStoring w b).store.op = some { kind := 0x08#8, tag := 1#8, work := w, rollback := b }) ∧
    StoreWork.setBands .h2 h2def ≠ .clear ∧ (yardStoring (.setBands .h2 h2def) false).holders.get .h2 = some h2 := by
  decide +kernel

theorem witness_DefinitionsTakeEffect :
    ∀ w ∈ [StoreWork.defineHolder .h2 h4def, .defineHolder .h1 h4def, .removeHolder .h2, .defineDistrict .d1 d2def,
      .defineDistrict .d2 ⟨12, 50, 3000, 200, false, 0, 5, 1, 10⟩, .removeDistrict .d2],
      (yardStoring w false).powered = true ∧
      (yardStoring w false).store.op = some { kind := 0x08#8, tag := 1#8, work := w, rollback := false } ∧
      (yardStoring w false).districts.get .d1 = none ∧ (yardStoring w false).districts.get .d2 = some d2 ∧
      d2.station.address ≠ 12 ∧ (yardStoring w false).holders.get .h1 = none ∧
      (yardStoring w false).holders.get .h2 = some h2 ∧
      ∀ h ∈ [HolderId.h1, .h2], ∀ o ∈ (yardStoring w false).seq.orders, o.names h = false := by decide +kernel

/-- R45: a valve created with both limits made is in DISAGREE, its fault handed over; with neither it is UNKNOWN. -/
theorem test_created_valves :
    ((after (.storeOperationDone true) { yardStoring (.defineHolder .h1 h4def) false with
        pins := ⟨⟨⟨true, true⟩, ⟨false, false⟩⟩, shut, shut, shut⟩ }).bind fun c => (c.holders.get .h1).map fun q =>
      (q.inlet.state, q.outlet.state, q.outlet.commanded, c.faults.handed.length)) =
    some (.disagree, .unknown, none, 1) := by decide +kernel

theorem witness_FailedWritesAreReported :
    ∀ b ∈ [true, false], (yardStoring (.removeHolder .h2) b).powered = true ∧
      (yardStoring (.removeHolder .h2) b).store.op =
        some { kind := 0x08#8, tag := 1#8, work := .removeHolder .h2, rollback := b } ∧
      (StoreWork.removeHolder .h2).record = some (.holder .h2) ∧ (yardStoring (.removeHolder .h2) b).seq.orders = [] := by
  decide +kernel

/-- Nine records read back as one finding. -/
def allFound (x : ClearReadBack) : PerRecord ClearReadBack := ⟨x, x, ⟨x, x, x, x⟩, ⟨x, x, x⟩⟩

theorem witness_StoreClearEnds :
    (yardStoring .clear false).powered = true ∧
    (yardStoring .clear false).store.op = some { kind := 0x08#8, tag := 1#8, work := .clear, rollback := false } ∧
    (∀ op, (yardStoring (.removeHolder .h2) false).store.op = some op → op.work ≠ .clear) ∧
    (∀ r ∈ allRecords, ((allFound ⟨true, true, 0#16, 0#16⟩).get r).erased = true) ∧
    (∃ r ∈ allRecords, (((allFound ⟨true, true, 0#16, 0#16⟩).put (.district .d3) ⟨false, true, 0#16, 1#16⟩).get r).erased =
      false) ∧
    (let c := { yardStoring .clear false with identity := .isSet [0x41#8], yard := some YardDef.default }
     let x := allFound ⟨false, true, 0#16, 1#16⟩
     c.identity = .isSet [0x41#8] ∧ c.yard = some YardDef.default ∧ c.holders.get .h2 = some h2 ∧
       c.districts.get .d2 = some d2 ∧ c.holders.get .h1 = none ∧ c.districts.get .d1 = none ∧ yard.identity = .unset ∧
       yard.yard = none ∧ (x.get (.holder .h2)).rewriteVerified = true ∧ (x.get .yard).rewriteVerified = true ∧
       (x.get .identity).rewriteVerified = true ∧ (x.get (.district .d2)).rewriteVerified = true) ∧
    ((allFound ⟨false, false, 0#16, 1#16⟩).get (.holder .h2)).rewriteVerified = false := by
  refine ⟨rfl, rfl, of_all (by decide +kernel), by decide +kernel, by decide +kernel, by decide +kernel, by decide +kernel⟩

/-! Restarts, the clock, the accounts -/

/-- The yard with a restart asked for. -/
def restarting (r : Restart) : Ctl := withOffice yard fun o => { o with restart := some r }

theorem witness_RestartsAreAskedFor :
    yard.powered = true ∧ yard.office.restart = none ∧
    (withOffice yard fun o => { o with outstanding := 7 }).office.outstanding < 8 := by decide +kernel

theorem witness_TheWarmRestartIsMade :
    (∀ r ∈ [Restart.mk (some 3#8) false, ⟨none, false⟩], (restarting r).powered = true ∧
      (restarting r).office.restart = some r ∧ r.pulse = false ∧ (restarting r).store.op = none ∧
      (restarting r).office.replies = [] ∧ (restarting r).office.sending = none) ∧
    ¬ ((Restart.mk none true).pulse = false) ∧ yard.office.restart = none := by decide +kernel

/-- A time on the yard's own day. -/
def at1700 : CalendarTime := { year := 2025, month := 11, day := 14, hour := 17, minute := 0, second := 59 }

theorem witness_SetClockClosesAndSets :
    (parseSetClock [0x07#8, 0xE9#8, 2#8, 29#8, 17#8, 0#8, 0#8]).isOk = false ∧
    (parseSetClock [0x07#8, 0xE9#8, 11#8, 14#8, 17#8, 0#8, 59#8]).toOption = some at1700 ∧
    (parseSetClock [0x07#8, 0xE9#8, 11#8, 14#8, 18#8, 0#8, 59#8]).toOption = some { at1700 with hour := 18 } ∧
    at1700.yardMinute / 60 = yard.clock.minute / 60 ∧ { at1700 with hour := 18 }.yardMinute / 60 ≠ yard.clock.minute / 60 ∧
    yard.clock.isSet = true ∧ Ctl.reset.clock.isSet = false := by decide +kernel

theorem witness_TheCalendarCountsDays :
    (∀ t ∈ [CalendarTime.mk 2024 2 28 0 0 0, ⟨2024, 2, 29, 0, 0, 0⟩, ⟨2025, 2, 28, 23, 59, 59⟩, ⟨2099, 11, 30, 0, 0, 0⟩],
      t.valid = true ∧ t.month < 12) ∧
    28 < monthLength 2024 2 ∧ 29 = monthLength 2024 2 ∧ 28 = monthLength 2025 2 ∧
    (CalendarTime.mk 2098 12 31 0 0 0).valid = true := by decide +kernel

/-- The yard at a yard minute. -/
def yardAt (m : Nat) : Ctl := { yard with clock := { minute := m, second := 59, isSet := true } }

theorem witness_MinutesCloseThePeriods :
    (∀ m ∈ [13607580, 13607639, 359], (yardAt m).powered = true) ∧ (13607580 + 1) % 60 ≠ 0 ∧ (13607639 + 1) % 60 = 0 ∧
    (359 + 1) % 1440 = 60 * (yardAt 359).settings.dayStart ∧
    (13607580 + 1) % 1440 ≠ 60 * (yardAt 13607580).settings.dayStart ∧
    (yardOrders h2 [] true).seq.held = true ∧ yard.acc.hour.opening = none ∧
    (∀ h q, (yardWith h2drawing).holders.get h = some q → q.figures.isSome = true) ∧
    ¬ (∀ h q, (yardWith h2).holders.get h = some q → q.figures.isSome = true) ∧
    (∀ o ∈ (yardOrders h2 [fillOfH2] false).seq.orders, o.phase = none) ∧ (yardOrders h2 [fillOfH2] false).powered = true ∧
    ((yard.districts.get .d2).isSome = true ∧ yard.districts.get .d1 = none) ∧
    { yard.acc.hour with opening := some 0 }.opening = some 0 ∧ yard.acc.hours.length < 48 ∧ yard.acc.days.length < 14 ∧
    (h2.figures = none ∧ h2drawing.figures ≠ none ∧ h2drawing.reasons.any = false) := by
  refine ⟨by decide +kernel, by decide, by decide, by decide, by decide, rfl, rfl, ?_, ?_, by decide +kernel, rfl,
    by decide +kernel, rfl, by decide, by decide, by decide +kernel⟩
  · exact fun h => of_all (by cases h <;> decide +kernel)
  · exact fun e => absurd (e .h2 h2 rfl) (by decide)

/-- R148, R158, R165: at the day-start hour the hour and the day close, their notices in that order, and a holder without
figures makes both SUSPECT. -/
theorem test_hour_and_day_close :
    ((after .minuteEvent { yardAt 359 with office := { yard.office with gate := true } }).map fun c =>
      (c.acc.hours.map fun r => (r.number, r.marks.suspect), c.acc.days.map fun r => (r.number, r.marks.suspect),
        c.office.queue.map fun n => match n.content with
          | .period q => some q.kind
          | _ => none)) = some ([(1, true)], [(1, true)], [some .hour, some .day]) := by decide +kernel

/-- R148, R154: the minute forms the pending opening total of the yard whose holder has figures, and no total without. -/
theorem test_opening_total_formed :
    ((after .minuteEvent (yardWith h2drawing)).map fun c => c.acc.hour.opening) = some (some 4130551) ∧
      ((after .minuteEvent (yardWith h2)).map fun c => c.acc.hour.opening) = some none := by decide +kernel

/-- R52: a pulse taken first restarts the timer and the expiry queued behind it does not occur; with the expiry first make
flowing is false, and the pulse makes it true again. -/
theorem test_pulse_and_expiry_fall_together :
    let ranOut : Ctl := { yard with makeFlowing := true, makeTimer := some 0 }
    let both (i j : Instr) : Option (Bool × Option Nat) :=
      ((after i ranOut).bind (after j)).map fun c => (c.makeFlowing, c.makeTimer)
    both .makePulse .makeFlowingExpiry = some (true, some 60) ∧ both .makeFlowingExpiry .makePulse = some (true, some 60) ∧
      (after .makeFlowingExpiry ranOut).map Ctl.makeFlowing = some false := by decide +kernel

theorem witness_PulsesAndSecondsAreCounted :
    yard.powered = true ∧ yard.makeTimer ≠ some 0 ∧ { yard with makeTimer := some 60 }.makeTimer ≠ some 0 ∧
      { yard with makeTimer := some 0 }.makeTimer = some 0 := by decide +kernel

/-- D2 with a count in slot 0. -/
def d2counted (fresh : Bool) : DistrictRec :=
  { d2 with station := { d2.station with slot0 := { value := some 16777215, fresh := fresh, overflow := false } } }

theorem witness_CountsAreTaken :
    (yardOf (d2counted false)).districts.get .d2 = some (d2counted false) ∧
    (d2counted false).station.slot0.fresh = false ∧ d2.station.slot0.value = none ∧
    (yardOf (d2counted true)).districts.get .d2 = some (d2counted true) ∧
    (d2counted true).station.slot0.fresh = true ∧ (d2counted true).station.slot0.value = some 16777215 ∧
    16777215 < 16777216 ∧ (yardOf (d2counted true)).acc.baselines.get .d2 = none ∧
    { (yardOf (d2counted true)) with acc := { yard.acc with baselines := ⟨none, some 0, none⟩ } }.acc.baselines.get .d2 =
      some 0 := by decide +kernel

/-- The yard after a minute event. -/
def minuteLater (m : Nat) : Ctl := (after .minuteEvent (yardAt m)).getD yard

/-- Accounts of at most one stored hour and one stored day are sound where the checks below hold. -/
theorem sound_of_checks (a : Accounts) (hn : numbersTo (a.hours.map HourRecord.number) a.hour.number)
    (hd : numbersTo (a.days.map DayRecord.number) a.day.number)
    (hc : (a.hour.number - a.hours.length ≤ a.hourCursor ∧ a.hourCursor ≤ a.hour.number) ∧
      (a.day.number - a.days.length ≤ a.dayCursor ∧ a.dayCursor ≤ a.day.number))
    (hh : ∀ r ∈ a.hours, r.change = (r.closing : Int) - r.opening ∧
      r.unaccounted = (r.make : Int) - sendOutSum r.sendOuts - r.change)
    (hl : a.hours.length ≤ 1) (hs : daysSound a.days) (ho : a.openSound) : a.sound := by
  refine ⟨hn, hd, hc.1, hc.2, ⟨hh, fun k r r' _ h _ => ?_⟩, hs, ho⟩
  obtain ⟨hk, -⟩ := List.getElem?_eq_some_iff.1 h
  omega

theorem witness_sound_accounts :
    yard.acc.sound ∧ (minuteLater 13607639).acc.sound ∧ (minuteLater 359).acc.sound := by
  refine ⟨sound_of_checks _ ?_ ?_ ?_ ?_ ?_ ?_ ⟨fun _ => of_all ?_, ?_, fun _ => ?_⟩,
    sound_of_checks _ ?_ ?_ ?_ ?_ ?_ ?_ ⟨fun _ => of_all ?_, ?_, fun _ => ⟨?_, 0, ?_⟩⟩,
    sound_of_checks _ ?_ ?_ ?_ ?_ ?_ ?_ ⟨fun _ => of_all ?_, ?_, fun _ => ?_⟩⟩
  all_goals first
    | (unfold numbersTo; decide +kernel)
    | (unfold daysSound; decide +kernel)
    | decide +kernel
    | (rename_i h; exact absurd (by decide +kernel) h)

theorem witness_RecordsAreRead :
    ((minuteLater 13607639).acc.hours.map fun r => (r.number, r.day)) = [(1, 1)] ∧
    (minuteLater 13607639).acc.hourCursor = 1 ∧ (minuteLater 13607639).acc.day.number = 1 ∧
    ((minuteLater 359).acc.hours.map fun r => (r.number, r.day)) = [(1, 1)] ∧
    (minuteLater 359).acc.days.map DayRecord.number = [1] ∧ (minuteLater 359).acc.dayCursor = 1 ∧
    (minuteLater 359).acc.day.number = 2 ∧ (minuteLater 359).office.outstanding = 0 ∧
    yard.acc.hourCursor = yard.acc.hour.number ∧ yard.acc.dayCursor = yard.acc.day.number := by decide +kernel

theorem witness_AccountsStaySound :
    (yardAt 359).acc.sound ∧ ∃ t, step ⟨[.minuteEvent], yardAt 359⟩ = .next t :=
  ⟨witness_sound_accounts.1, _, rfl⟩

/-! Samples -/

theorem witness_TheBarometerIsSampled :
    yard.powered = true ∧ 100 ≤ (100#12).toNat ∧ (99#12).toNat < 100 ∧ yard.baro.lost = false ∧
    { yard with baro := { yard.baro with lost := true } }.baro.lost = true := by decide +kernel

/-- A holder record at a crown, and what its inputs are after the codes of the three channels. -/
def atCrown (h : Nat) (flags : Flags) : HolderRec := { h2fed with crown := ⟨some h, false, false⟩, flags := flags }

def taken (r : HolderRec) (k : Codes) : HolderRec :=
  let v := r.defn.readings k
  r.takeReadings v (crownTake r.crown r.discards v.crown) yard.clock.minute

/-- The trips of a sample: the flags before, and the flags after stage 5. -/
def tripsAfter (r : HolderRec) (k : Codes) : Option (List TripKind) :=
  ((taken r k).sampleFigures yard.baro.value).map fun f => tripsOf r.flags ((taken r k).stage5 f yard.baro.lost).1.flags

theorem witness_HoldersAreSampled :
    yard.powered = true ∧ yard.holders.get .h1 = none ∧ (yardWith h2fed).holders.get .h2 = some h2fed ∧
    ((taken h2fed ⟨2375#12, 996#12, 1665#12⟩).sampleFigures yard.baro.value).isSome = true ∧
    (taken h2 ⟨99#12, 996#12, 1665#12⟩).sampleFigures yard.baro.value = none ∧
    (∀ k ∈ [100#12, 4095#12], k.toNat ≥ 100 ∧ (convert 0 600 k).isSome = true) ∧
    ((99#12).toNat < 100 ∧ convert 0 600 99#12 = none ∧ h2fed.pressure.lost = false ∧
      { h2fed with pressure := ⟨some 146, true, true⟩ }.pressure.lost = true) ∧
    ((crownTake h2.crown h2.discards (convert 0 h2.defn.span 99#12)).input.value = none ∧ h2.pressure.value = none ∧
      h2.temperature.value = none ∧ Ctl.reset.baro.value = none) ∧
    ((crownTake h2fed.crown h2fed.discards (convert 0 h2fed.defn.span 2375#12)).input.value = some 9500 ∧
      (crownTake h2fed.crown h2fed.discards (convert 0 h2fed.defn.span 99#12)).input.value = some 9498 ∧
      yard.baro.value = some 10020) := by decide +kernel

theorem witness_TripsShutTheValves :
    (∀ o ∈ (yardOrders h2fed [fillOfH2] false).seq.orders, o.phase.isSome = true → o.names .h2 = false) ∧ tripsAfter h2fed ⟨2375#12, 996#12, 1665#12⟩ = some [] ∧
    tripsAfter (atCrown 501 Flags.clear) ⟨125#12, 996#12, 1665#12⟩ = some [.landing] ∧
    tripsAfter (atCrown 13699 Flags.clear) ⟨3425#12, 996#12, 1665#12⟩ = some [.top] ∧
    yard.makeFlowing = false ∧ { yard with makeFlowing := true }.makeFlowing = true := by decide +kernel

theorem witness_CrownJumpsAreHeld :
    (Input.mk (some 9500) false false).lost = false ∧ (Input.mk (some 9500) true true).lost = true ∧
    (Input.mk (none : Option Nat) false false).value = none ∧ 9700 ≤ 9500 + 200 ∧ ¬ 9701 ≤ 9500 + 200 ∧
    ∀ run ∈ [[], [10000], [10000, 10200]], run.length ≤ 2 := by decide

theorem witness_TheStockRisesWithTheCrown :
    h4def.fieldsInRange = true ∧ h4def.hmax = 40000 ∧ h2def.fieldsInRange = true ∧ h2def.hmax ≤ 40000 := by
  decide +kernel

theorem witness_CorrectionFactorsAreBounded :
    (9000 ≤ 9000 ∧ 11000 ≤ 11000 ∧ 0 ≤ 600 ∧ 600 ≤ 600 ∧ (-100 : Int) ≤ 450) ∧ 10 < 11 ∧ 49 < 50 := by decide

/-- The flags of every row: at each margin and band, in both modes and every connection state. -/
theorem witness_FlagsFollowTheSample :
    500 ≤ h2def.landingMargin ∧ h2def.landingMargin < 501 ∧ 600 ≤ h2def.landingMargin + 100 ∧
    h2def.landingMargin + 100 < 601 ∧ h2def.hmax ≤ 13700 + h2def.topMargin ∧ 13699 + h2def.topMargin < h2def.hmax ∧
    h2def.hmax ≤ 13600 + h2def.topMargin + 100 ∧ 13599 + h2def.topMargin + 100 < h2def.hmax ∧
    h2def.landingMargin + h2def.topMargin + 200 < h2def.hmax ∧ 767500 ≤ h2def.lowOffset ∧ ¬ 767501 ≤ h2def.lowOffset ∧
    h2def.mode = .follow ∧ h4def.mode = .latch := by decide +kernel

/-- R36, R37: with lift offsets 0 and 7,000 a crown within 150 mm of 7,000 or at the landing margin is not checked; a
pressure 20 from the expected one agrees. -/
theorem test_checked_and_disagreeing :
    let f (h pg : Nat) : Figures := figuresOf h2def h2def.vsmax h pg 124 10020
    (∀ h ∈ [501, 6849, 7151], checkedSample h2def (f h 128) true true = true) ∧
    (∀ h ∈ [500, 6850, 7150], checkedSample h2def (f h 128) true true = false) ∧
    checkedSample h2def (f 501 128) false true = false ∧ checkedSample h2def (f 501 128) true false = false ∧
    (f 6849 98).lifts = 1 ∧ (f 7151 98).lifts = 2 ∧ h2def.expected[0]? = some 118 ∧ h2def.expected[1]? = some 148 ∧
    disagrees h2def (f 6849 98) = false ∧ disagrees h2def (f 6849 97) = true ∧
    disagrees h2def (f 7151 168) = false ∧ disagrees h2def (f 7151 169) = true := by decide +kernel

theorem witness_PressureDisagreeTakesThirty :
    (∀ p ∈ List.replicate 30 (true, true) ++ [(false, false)], p.1 = true → p.2 = true) ∧
    (∀ p ∈ [(false, true)] ++ List.replicate 29 (true, false), p.1 = true → p.2 = false) ∧
    (CheckResult.mk 0 0 false false).disagreeCount = 0 ∧ (CheckResult.mk 0 0 true false).agreeCount = 0 := by decide

/-! Valves -/

/-- A valve in a state, commanded, with its limits. -/
def valveAt (state : ValveState) (commanded : Option Position) (opened closed : Bool) : ValveRec :=
  { h2.inlet with commanded := commanded, state := state, limits := ⟨opened, closed⟩ }

/-- H2 with an inlet. -/
def h2inlet (v : ValveRec) : HolderRec := { h2 with inlet := v }

theorem witness_OrderCommandsAreJudged :
    yard.holders.get .h1 = none ∧ yard.holders.get .h2 = some h2 ∧ h2.inlet.state ≠ .opening ∧ h2.inlet.state = .closed ∧
    h2.flags.landed = false ∧ h2.flags.top = false ∧ { h2 with flags := ⟨true, false, true, false⟩ }.flags.landed = true ∧
    { h2 with flags := ⟨false, true, false, true⟩ }.flags.top = true ∧
    (h2inlet (valveAt .opened (some .opened) true false)).inlet.commanded = some .opened ∧
    { yard with makeFlowing := true }.makeFlowing = true ∧ h2drawing.outlet.commanded = some .opened ∧
    (∀ i q, i ≠ .h2 → (yardWith h2drawing).holders.get i = some q → q.outlet.commanded ≠ some .opened) ∧
    d2running.prog.state = .running := by
  refine ⟨rfl, rfl, by decide +kernel, by decide +kernel, rfl, rfl, rfl, rfl, rfl, rfl, rfl, ?_, rfl⟩
  intro i q hi
  cases i
  · exact fun h => nomatch h
  · exact absurd rfl hi
  · exact fun h => nomatch h
  · exact fun h => nomatch h

/-- Of every clause, a valve before and the limits after its event. -/
theorem witness_LimitsAreJudged :
    { yard with powered := false }.powered = false ∧ yard.holders.get .h1 = none ∧
    (∀ st ∈ [ValveState.opening, .closing, .stuck], ∀ v ∈ [valveAt st (some .opened) false true],
      (yardWith (h2inlet v)).holders.get .h2 = some (h2inlet v) ∧ (h2inlet v).valve .inlet = v ∧ v.state = st ∧
        v.limits.closedMade = true ∧ v.commanded = some .opened) ∧
    ((valveAt .opening (some .opened) false false).limits.closedMade = false) ∧
    ((valveAt .closing (some .closed) false false).limits.openMade = false) ∧
    (valveAt .stuck (some .closed) true false).commanded = some .closed ∧
    (true = (Switch.closedLimit == .closedLimit) ∧ false = (Switch.openLimit == .closedLimit)) ∧
    (∀ st ∈ [ValveState.opened, .closed, .disagree, .unknown], (valveAt st none true false).state = st) ∧
    (∀ orders ∈ [[], [fillOfH2], [{ fillOfH2 with phase := some .runningFill, holder := .h1 }, fillOfH2]],
      ∀ o ∈ (yardOrders (h2inlet (valveAt .opening (some .opened) false false)) orders false).seq.orders,
        o.phase.isSome = true → o.names .h2 = false) ∧
    (fillOfH2.names .h2 = true) ∧
    (∀ st ∈ [ValveState.opening, .closing], ({ valveAt st none false false with timeout := some 0 }).timeout = some 0) ∧
    ¬ (((valveAt .opened none true false).state = .opening ∨ (valveAt .opened none true false).state = .closing) ∧
      (valveAt .opened none true false).timeout = some 0) ∧
    ({ valveAt .opening none false false with timeout := some 180 }).timeout ≠ some 0 := by
  decide +kernel

/-- H2 landed, its outlet CLOSED. -/
def h2landed : HolderRec := { h2 with flags := ⟨true, false, true, false⟩ }

theorem witness_EndsStayShut :
    (yardWith h2landed).endsShut ∧ ∃ t, step ⟨[.submitOrder 9#8 [1#8, 2#8, 0#8, 60#8, 0#8]], yardWith h2landed⟩ = .next t := by
  refine ⟨fun h => of_all (by cases h <;> decide +kernel), _, rfl⟩

/-! Orders -/

/-- A sequencer with these orders and an empty ended list is sound where the checks below hold. -/
theorem sound_orders (q : Sequencer) (h1 : q.orders.length ≤ 8) (h2 : q.ended.length ≤ 4)
    (h3 : (q.orders.map Order.number ++ q.ended.map EndRecord.number).Nodup) (h4 : (q.orders.filter Order.active).length ≤ 1) :
    q.sound := by
  refine ⟨h1, h2, h3, fun h o ho p hp ao ap _ _ => ?_⟩
  have mo : o ∈ q.orders.filter Order.active := List.mem_filter.2 ⟨ho, ao⟩
  have mp : p ∈ q.orders.filter Order.active := List.mem_filter.2 ⟨hp, ap⟩
  generalize q.orders.filter Order.active = l at mo mp h4
  cases l with
  | nil => cases mo
  | cons a l =>
    cases l with
    | nil => rw [List.mem_singleton.1 mo, List.mem_singleton.1 mp]
    | cons b l => simp at h4

/-- The yard, held, with orders 1 to n of H2 queued, the next number 999. -/
def queued (n : Nat) : Ctl :=
  { yard with seq :=
      { yard.seq with
        orders := (List.range n).map fun k => { fillOfH2 with number := k + 1 }, held := true, nextNumber := 999 } }

/-- A FILL of H2 in a phase. -/
def fillIn (phase : Option Phase) : Order := { fillOfH2 with phase := phase }

/-- A FILL of H2 in RUNNING and a second one queued behind it. -/
def twoFills : List Order := [fillIn (some .runningFill), { fillOfH2 with number := 8 }]

theorem not_barred : ¬ (yardOrders h2 [fillOfH2] false).bars fillOfH2 := by
  rintro ⟨h, _, ⟨p, hp, active, _⟩ | ⟨op, ho, _⟩⟩
  · cases List.mem_singleton.1 hp
    cases active
  · cases ho

theorem witness_OrdersAreSubmitted :
    ((within 4 9 [0#8, 2#8, 0#8, 0#8].length = true ∧ (parseSubmitOrder [0#8, 2#8, 0#8, 0#8]).isOk = false) ∧
    (parseSubmitOrder [3#8, 2#8, 0#8, 1#8]).isOk = true ∧
    (parseSubmitOrder [0#8, 2#8, 2#8, 208#8, 1#8]).toOption = some ⟨.fill, .h2, none, none, 720, some .leave⟩ ∧
    (parseSubmitOrder [1#8, 2#8, 0#8, 60#8, 0#8, 0#8, 0x3F#8, 0#8, 0#8]).toOption =
      some ⟨.draw, .h2, none, some 4128768, 60, some .close⟩ ∧
    (yard.holders.get .h2).isSome = true ∧ yard.holders.get .h1 = none ∧ 8 ≤ (queued 8).seq.orders.length ∧
    (queued 7).seq.orders.length < 8 ∧ (queued 7).seq.held = true ∧
    1 ≤ yard.seq.nextNumber ∧ yard.seq.nextNumber ≤ 999 ∧ (queued 7).seq.nextNumber = 999 ∧ yard.seq.held = false ∧
    yard.seq.orders = [] ∧ yard.store.op = none ∧ h2drawing.flags = Flags.clear ∧
    h2drawing.figures.map Figures.stock = some 4130551 ∧ 4128768 < 4130551 ∧
    ((parseSubmitOrder [2#8, 2#8, 0#8, 60#8, 1#8]).toOption = some ⟨.changeover, .h2, some .h1, none, 60, none⟩ ∧
      (parseSubmitOrder [3#8, 2#8, 0#8, 60#8]).toOption = some ⟨.isolate, .h2, none, none, 60, none⟩) ∧
    (h2.flags.top = false ∧ h2.figures = none ∧ h2.inlet.state = .closed ∧
      { h2 with flags := ⟨false, true, false, true⟩ }.flags.top = true ∧
      { h2 with flags := ⟨false, false, false, true⟩ }.flags.topNear = true ∧
      { h2 with flags := ⟨true, false, true, false⟩ }.flags.landed = true ∧
      { h2 with flags := ⟨false, false, true, false⟩ }.flags.landingNear = true) ∧
    (∀ x ∈ [h2, h2drawing], x.flags.landed = false) ∧ h2.outlet.state ≠ .opened ∧ h2drawing.outlet.state = .opened ∧
    h2drawing.outlet.commanded = some .opened ∧ h2.outlet.commanded ≠ some .opened ∧
    (∀ p ∈ (yardOrders h2 [fillIn (some .runningFill)] false).seq.orders, p.phase.isSome = true) ∧
    (∀ p ∈ (yardOrders h2 twoFills false).seq.orders, p.number = 8 → p = { fillOfH2 with number := 8 })) ∧
    ((queued 7).seq.sound ∧ yard.seq.sound) ∧
    (∃ r : HolderRec, r.outlet.commanded = some .opened ∧ r.outlet.state = .closed) ∧
    ((yardOrders h2 twoFills false).seq.orders = [fillIn (some .runningFill)] ++ { fillOfH2 with number := 8 } :: [] ∧
      (yardOrders h2 twoFills false).bars { fillOfH2 with number := 8 }) ∧
    ((yardOrders h2 [fillOfH2] false).seq.orders = [] ++ fillOfH2 :: [] ∧ fillOfH2.phase = none ∧
      ¬ (yardOrders h2 [fillOfH2] false).bars fillOfH2) := by
  refine ⟨by decide +kernel, ⟨sound_orders _ ?_ ?_ ?_ ?_, sound_orders _ ?_ ?_ ?_ ?_⟩,
    ⟨{ h2 with outlet := { h2.outlet with commanded := some .opened } }, rfl, rfl⟩,
    ⟨rfl, .h2, rfl, .inl ⟨fillIn (some .runningFill), .head _, rfl, rfl⟩⟩, ⟨rfl, rfl, not_barred⟩⟩ <;> decide +kernel

/-- The yard whose H1 is shut and whose H2 draws. -/
def two : Ctl := { yard with holders := ⟨some h2, some h2drawing, none, none⟩ }

/-- R68, R74, R75: a CHANGEOVER from H2 to H1 opens H1's outlet; an ISOLATE of H2 shuts its outlet, and one of the holder
already shut ends DONE at once. -/
theorem test_changeover_and_isolate_start :
    ((after (.submitOrder 9#8 [2#8, 2#8, 0#8, 60#8, 1#8]) two).map fun c =>
      (c.seq.orders.map Order.phase, c.valveIn .h1 .outlet .opening, c.valveIn .h2 .outlet .opened)) =
        some ([some .openingNew], true, true) ∧
    ((after (.submitOrder 9#8 [3#8, 2#8, 0#8, 60#8]) two).map fun c =>
      (c.seq.orders.map Order.phase, c.valveIn .h2 .outlet .closing)) = some ([some .closing], true) ∧
    ((after (.submitOrder 9#8 [3#8, 1#8, 0#8, 60#8]) two).map fun c => c.seq.ended.map EndRecord.reason) =
      some [.done] := by decide +kernel

/-- R67: behind a head whose holder is engaged an order whose own holder is free stays QUEUED; with the head free it starts. -/
theorem test_starting_rule_waits_for_the_head :
    ((after (.submitOrder 9#8 [0#8, 1#8, 0#8, 60#8, 0#8]) { two with seq := (yardOrders h2 twoFills false).seq }).map fun c =>
      c.seq.orders.map Order.phase) = some [some .runningFill, none, none] ∧
    ((after (.submitOrder 9#8 [0#8, 1#8, 0#8, 60#8, 0#8])
      { two with seq := (yardOrders h2 [fillIn (some .runningFill)] false).seq }).map fun c =>
      c.seq.orders.map Order.phase) = some [some .runningFill, some .openingInlet] := by decide +kernel

/-- A FILL in a phase whose awaited valve has arrived while held, given a stock of 4,130,551. -/
def arrived (phase : Phase) (target : Option Nat) : Order :=
  { fillIn (some phase) with
    target := target, arrivalPending := true, given := some { stock := 4130551, flags := Flags.clear } }

/-- H2 with its inlet OPEN. -/
def h2open : HolderRec := { h2 with inlet := { h2.inlet with state := .opened, commanded := some .opened } }

/-- R81: a resume makes the step of the arrival, waits again where the inlet has left OPEN, and ends the FILL that has
meanwhile come to its target. -/
theorem test_resume_takes_the_pending_arrival :
    ([(h2open, none), (h2, none), (h2open, some 4130551)].map fun e =>
      (after (.ordersResume 9#8 []) (yardOrders e.1 [arrived .openingInlet e.2] true)).map fun c =>
        (c.seq.orders.map fun o => (o.phase, o.arrivalPending), c.seq.ended.map EndRecord.reason)) =
      [some ([(some .runningFill, false)], []), some ([(some .openingInlet, false)], []), some ([], [.atTarget])] := by
  decide +kernel

theorem not_reached : ¬ (arrived .openingInlet none).reached { stock := 4130551, flags := Flags.clear } := by
  rintro (⟨_, ⟨_, e, _⟩ | ⟨_, e⟩⟩ | ⟨e, _⟩) <;> cases e

theorem witness_OrdersAreCancelledAndHeld :
    (256 * (0#8).toNat + (0#8).toNat = 0 ∧ 1000 ≤ 256 * (3#8).toNat + (232#8).toNat ∧
    256 * (0#8).toNat + (7#8).toNat = 7 ∧ yard.seq.orders.find? (fun o => o.number == 7) = none ∧
    (∀ f ∈ [none, some Phase.closingOld, some .runningFill],
      (yardOrders h2 [fillIn f] true).seq.orders.find? (fun o => o.number == 7) = some (fillIn f)) ∧
    (yardOrders h2 [] true).seq.held = true ∧ (yardOrders h2 [] true).seq.orders = [] ∧ yard.seq.held = false ∧
    (∀ o ∈ [fillIn (some .openingInlet), fillIn (some .runningFill),
        { fillIn (some .openingOutlet) with kind := .draw }, { fillIn (some .runningDraw) with kind := .draw },
        { fillIn (some .openingNew) with kind := .changeover, second := some .h1 },
        { fillIn (some .closing) with kind := .isolate }],
      (yardOrders h2 [o] false).seq.orders = [o] ∧
        (yardOrders h2 [o] false).seq.orders.find? (fun o => o.number == 7) = some o ∧ o.phase ≠ some .closingOld)) ∧
    ((∀ o ∈ [arrived .runningFill none, { arrived .runningDraw none with kind := .draw }, arrived .openingInlet (some 0),
        { arrived .openingOutlet none with kind := .draw }, { arrived .closingOld none with kind := .changeover },
        { arrived .openingNew none with kind := .changeover, second := some .h1 },
        { arrived .closing none with kind := .isolate }],
      o.phase.isSome = true ∧ o.arrivalPending = true ∧ o.given = some { stock := 4130551, flags := Flags.clear } ∧
        (∀ p ∈ (yardOrders h2 [o] true).seq.orders, p.number = o.number → p = o)) ∧
    (h2open.inlet.state = .opened ∧ h2.inlet.state ≠ .opened ∧ h2drawing.outlet.state = .opened ∧
      h2.outlet.state ≠ .opened ∧ h2.inlet.state = .closed ∧ h2.outlet.state = .closed ∧ two.holders.get .h1 = some h2 ∧
      two.holders.get .h2 = some h2drawing ∧ h2drawing.outlet.state ≠ .closed)) ∧
    (arrived .openingInlet (some 4130551)).reached { stock := 4130551, flags := Flags.clear } ∧
    ¬ (arrived .openingInlet none).reached { stock := 4130551, flags := Flags.clear } :=
  ⟨by decide +kernel, by decide +kernel, .inl ⟨rfl, .inl ⟨4130551, rfl, Nat.le_refl _⟩⟩, not_reached⟩

/-- R82: a FILL cancelled QUEUED carries the stock last given for its holder, and one of a holder never given a stock
none. -/
theorem test_cancelled_order_carries_the_last_stock :
    ((after (.cancelOrder 9#8 [0#8, 7#8]) { yardOrders h2 [fillOfH2] true with seq :=
        { (yardOrders h2 [fillOfH2] true).seq with lastStock := ⟨none, some 4130551, none, none⟩ } }).map fun c =>
      c.seq.ended.map EndRecord.lastStock) = some [some 4130551] ∧
    ((after (.cancelOrder 9#8 [0#8, 7#8]) (yardOrders h2 [fillOfH2] true)).map fun c =>
      c.seq.ended.map EndRecord.lastStock) = some [none] := by decide +kernel

theorem witness_FlowOrdersEnd :
    ∀ o ∈ [fillIn (some .runningFill), { fillIn (some .runningFill) with target := some 100, minutesRun := 59 },
      { fillIn (some .runningDraw) with kind := .draw, endAction := some .leave }],
      (yardOrders h2drawing [o] false).seq.orders = [o] ∧ (yardOrders h2drawing [o] false).seq.held = false ∧
      o.phase.isSome = true ∧ (o.kind = .fill ∨ o.kind = .draw) ∧
      (∃ n ∈ [o.deadline - 1, o.minutesRun], n + 1 = o.deadline) ∧ (o.target = none ∨ o.target = some 100) := by
  decide +kernel

theorem witness_HeldOrdersStandStill :
    (yardOrders h2 [fillOfH2, fillIn (some .openingInlet)] true).seq.held = true ∧
    ∃ t, exec .minuteEvent (alone (yardOrders h2 [fillOfH2, fillIn (some .openingInlet)] true)) = .next t ∧
      t.ctl.seq.held = true := ⟨rfl, _, rfl, by decide +kernel⟩

/-! Programmes and pressures -/

/-- D2 with its programme in a state, its last step at the current step, and the state before. -/
def d2in (state : ProgState) (before : Option ProgState) : DistrictRec :=
  { d2running with prog := { d2running.prog with
      state := state, beforePause := if state = .paused then before else none
      beforeStarve := if state = .starved then before else none } }

/-- The yard whose supply is H2's outlet, with a record of D2. -/
def supplying (r : DistrictRec) : Ctl := { yardWith h2drawing with districts := ⟨none, some r, none⟩ }

/-- Its programme in END-HOLD at step 0 with a second step written. -/
def twoSteps : Programme :=
  { (d2in .endHold none).prog with
    ring := [some ⟨125, 5, 40, false, false⟩, some ⟨80, 0, 1, true, false⟩] ++ List.replicate 14 none }

theorem witness_TheRingIsWritten :
    (parseWriteStep [0#8, 0#8, 0#8, 0#8, 0#8, 0#8, 1#8, 0#8]).isOk = false ∧ (parseStepIndex [2#8, 16#8]).isOk = false ∧
    (parseSetRepeat [2#8, 2#8, 0#8]).isOk = false ∧
    (∀ e ∈ [Step.mk 0 0 1 false false, ⟨3000, 100, 1440, true, true⟩], e.inRange = true) ∧ yard.districts.get .d1 = none ∧
    (yardOf d2running).districts.get .d2 = some d2running ∧ d2running.prog.state ≠ .idle ∧ d2running.prog.current = 0 ∧
    d2.prog.state = .idle ∧ (15#8).toNat ≤ 15 ∧ (1#8).toNat ≤ 1 ∧
    (∀ m, m ≤ (0 + 16 - d2running.prog.current) % 16 →
      (d2running.prog.entry ((d2running.prog.current + m) % 16)).isSome = true) ∧
    d2running.prog.entry 1 = none ∧ (d2in .endHold none).prog.underlying = some .endHold ∧
    d2running.prog.underlying ≠ some .endHold ∧
    (∀ m, m ≤ (1 + 16 - 0) % 16 → (twoSteps.entry ((0 + m) % 16)).isSome = true) := by
  refine ⟨by decide +kernel, by decide +kernel, by decide +kernel, by decide +kernel, rfl, rfl, by decide, rfl, rfl,
    by decide, by decide, ?_, by decide +kernel, rfl, by decide +kernel, ?_⟩
  · intro m hm
    cases Nat.le_zero.1 hm
    decide +kernel
  · intro m hm
    have : m = 0 ∨ m = 1 := by omega
    rcases this with rfl | rfl <;> decide +kernel

theorem witness_ProgrammesRunAndPause :
    (∀ r ∈ [d2, d2in .idle none, d2running, d2in .endHold none, d2in .starved (some .running), d2in .paused (some .running)],
      (yardOf r).districts.get .d2 = some r ∧ (yardOf r).districtReserved .d2 = false) ∧
    (yardStoring (.removeDistrict .d2) false).districtReserved .d2 = true ∧ (d2.prog.state = .idle ∧ d2.prog.last = none) ∧
    ((d2in .idle none).prog.state = .idle ∧ (d2in .idle none).prog.last.isSome = true) ∧
    ((d2in .paused (some .running)).prog.state = .paused ∧
      (d2in .paused (some .running)).prog.underlying = some .running) ∧
    ((supplying d2).holders.get .h2 = some h2drawing ∧ h2drawing.outlet.commanded = some .opened) ∧
    (yardOf d2running).anyCommandedOpen .outlet = false ∧ d2.boosterCalled = false ∧
    { d2 with boosterCalled := true }.boosterCalled = true := by decide +kernel

theorem witness_ProgrammesFollowTheirSteps :
    (∀ r ∈ [d2, d2running, d2in .endHold none, d2in .starved (some .running), d2in .paused (some .running)],
      (supplying r).powered = true ∧ (supplying r).districts.get .d2 = some r) ∧
    2 ≤ d2running.prog.remaining ∧ { d2running.prog with remaining := 1 }.remaining ≤ 1 ∧
    { d2running.prog with last := some 1 }.last ≠ some d2running.prog.current ∧
    d2running.prog.last = some d2running.prog.current ∧
    ({ d2running.prog with repeats := true }.repeats = true ∧ (0 + 16 - d2running.prog.repeatStart) % 16 = 0 ∧
      (d2running.prog.entry d2running.prog.repeatStart).isSome = true) ∧ d2running.prog.repeats = false := by
  decide +kernel

/-- D2 with fresh readings in slots 1 and 3 and a confirmed set-point. -/
def d2read : DistrictRec :=
  { d2running with
    confirmed := some 80
    station := { d2running.station with
      slot1 := { value := some 64, fresh := true, overflow := false }
      slot3 := { value := some 106, fresh := true, overflow := false } } }

theorem witness_PressuresAreJudged :
    ((supplying d2read).powered = true ∧ (supplying d2read).districts.get .d2 = some d2read) ∧
    (d2read.station.slot1.fresh = true ∧ d2read.station.slot1.value = some 64 ∧ d2read.confirmed = some 80 ∧
      64 + d2read.defn.tolerance < 80 ∧ 80 ≤ 65 + d2read.defn.tolerance) ∧
    (d2read.station.slot3.fresh = true ∧ d2read.station.slot3.value = some 106) ∧
    (h2drawing.figures.map Figures.pg = some 146 ∧ h2drawing.outlet.state = .opened ∧ 106 < 146) ∧
    (d2read.defn.booster = true ∧ d2read.boosterCalled = false ∧
      { d2read with boosterCalled := true, boosterRun := 8 }.boosterRun ≤ 8 ∧
      9 ≤ { d2read with boosterCalled := true, boosterRun := 9 }.boosterRun) ∧ d2read.loss ≤ 300 ∧
    (reading 13).line.isSome = true := by decide +kernel

/-- R112, R113: the supply of 146 less a loss of 20 is a ceiling of 126: a step that boosts at a set-point of 130 calls for
the current step, a next step of 127 five minutes ahead for LOOK-AHEAD, and a governor at 95 with the reading 11 below the
confirmed set-point for GOVERNOR WIDE. -/
theorem test_booster_reasons :
    let entry (target : Nat) (boost : Bool) : Option Step := some ⟨target, 0, 40, false, boost⟩
    let reason (r : DistrictRec) (a b : Option Step) (remaining : Nat) : Option (Option BoosterReason × Bool) :=
      (after .minuteEvent (supplying { r with prog := { r.prog with
        ring := a :: b :: List.replicate 14 none, last := some 1, remaining := remaining } })).bind fun c =>
          (c.districts.get .d2).map fun q => (q.boosterReason, q.boosterCalled)
    let wide : DistrictRec := { d2read with
      confirmed := some 91
      station := { d2running.station with
        slot1 := { value := some 80, fresh := true, overflow := false }
        slot2 := { value := some 95, fresh := true, overflow := false } } }
    reason d2running (entry 130 true) (entry 80 false) 40 = some (some .currentStep, true) ∧
    reason d2running (entry 100 false) (entry 127 true) 6 = some (some .lookAhead, true) ∧
    reason d2running (entry 100 false) (entry 127 true) 7 = some (none, false) ∧
    reason d2running (entry 100 false) (entry 126 true) 6 = some (none, false) ∧
    reason wide (entry 100 true) (entry 80 false) 40 = some (some .governorWide, true) ∧
    reason { wide with confirmed := some 90 } (entry 100 true) (entry 80 false) 40 = some (none, false) := by
  decide +kernel

/-- The supply of the yard that draws from H2. -/
theorem witness_SupplyIsKept :
    (supplying d2running).supplied ∧ ∃ t, step ⟨[.minuteEvent], supplying d2running⟩ = .next t := by
  refine ⟨⟨fun _ => by decide +kernel, ?_, (fun op h e => nomatch e), sound_orders _ ?_ ?_ ?_ ?_⟩, _, rfl⟩
  · intro h r
    cases h
    · exact fun e => nomatch e
    · exact fun e => Option.some.inj e ▸ fun w => nomatch w
    · exact fun e => nomatch e
    · exact fun e => nomatch e
  all_goals decide +kernel

theorem witness_WritesStayWithinLimits :
    (supplying { d2running with station := { d2running.station with pendingWrite := some 150 } }).writesWithinLimits ∧
    ∃ t, step ⟨[.minuteEvent], supplying { d2running with station :=
      { d2running.station with pendingWrite := some 150 } }⟩ = .next t := by
  refine ⟨⟨?_, ?_, (fun op d q e => nomatch e)⟩, _, rfl⟩
  · intro d r
    cases d
    · exact fun e => nomatch e
    · rintro ⟨⟩
      exact ⟨by decide, of_all (by decide +kernel)⟩
    · exact fun e => nomatch e
  · intro d q e
    cases d <;> cases e

/-! The telemetry line -/

/-- D2 with a pending write, and with its read due at a time. -/
def d2pending : DistrictRec := { d2 with station := { d2.station with pendingWrite := some 80 } }
def d2due (t : Nat) : DistrictRec := { d2 with station := { d2.station with readDue := t } }

/-- A pass-through that waits. -/
def waiting : Ctl :=
  { yard with pass := some { address := 31, tag := 4#8, inFlight := false, lastFailure := none } }

theorem witness_TheArbiterChooses :
    yard.powered = true ∧ yard.districts.get .d1 = none ∧ yard.districts.get .d2 = some d2 ∧
    (reading 13).line.isSome = true ∧ yard.line = none ∧ waiting.line = none ∧
    (waiting.pass.map PassSlot.inFlight = some false) ∧ yard.pass = none ∧
    ((yardOf d2pending).districts.get .d2 = some d2pending ∧ d2pending.station.pendingWrite = some 80 ∧
      (yardOf d2pending).districts.get .d1 = none) ∧
    (∀ i x, yard.districts.get i = some x → x.station.pendingWrite = none) ∧ d2.station.readDue ≤ yard.now ∧
    (∀ i x, i ≠ .d2 → yard.districts.get i = some x → d2.station.readDue < x.station.readDue) ∧
    (∀ i x, (yardOf (d2due 1)).districts.get i = some x → yard.now < x.station.readDue) ∧
    (let c := { yard with districts := ⟨some d2, some d2, none⟩ }
     c.line = none ∧ c.pass = none ∧ c.districts.get .d1 = some d2 ∧
       ∀ i x, i ≠ .d1 → c.districts.get i = some x → d2.station.readDue = x.station.readDue ∧
         districtIndex .d1 < districtIndex i) := by
  refine ⟨rfl, rfl, rfl, rfl, rfl, rfl, rfl, rfl, ⟨rfl, rfl, rfl⟩, ?_, by decide +kernel, ?_, ?_, rfl, rfl, rfl, ?_⟩
  · exact fun i => of_all (by cases i <;> decide +kernel)
  · intro i x hi
    cases i
    · exact fun e => nomatch e
    · exact absurd rfl hi
    · exact fun e => nomatch e
  · exact fun i => of_all (by cases i <;> decide +kernel)
  · intro i x hi
    cases i
    · exact absurd rfl hi
    · exact fun e => Option.some.inj e ▸ by decide
    · exact fun e => nomatch e

/-- An exchange of D2, or of the pass-through, in a period of an attempt. -/
def exchanging (served : Served) (f : TeleFunction) (attempt : Nat) (period : AttemptPeriod) (orphan : Bool) : Exchange :=
  { served := served, address := 11, function := f, attempt := attempt, period := period
    settings := { speed := 1200, quiet := 10, window := 400 }, since := 0, orphan := orphan }

/-- The yard with an exchange on the line and a pass-through in flight. -/
def onLine (e : Exchange) : Ctl :=
  { yard with
    line := some e, office := { yard.office with outstanding := 1 }
    pass := some { address := 11, tag := 4#8, inFlight := true, lastFailure := none } }

theorem witness_AttemptsRunTheirPeriods :
    yard.powered = true ∧ yard.line = none ∧
    (∀ p ∈ [AttemptPeriod.quiet, .transmit, .window [], .window (List.replicate 12 0#8)],
      ∀ s ∈ [Served.district .d2, .pass], ∀ n ∈ [1, 2], ∀ b ∈ [true, false],
        (onLine (exchanging s .readPoints n p b)).line = some (exchanging s .readPoints n p b) ∧ n ≤ 2) ∧
    (∀ f ∈ [TeleFunction.readPoints, .writeSetPoint 95], ∀ b ∈ [true, false],
      let e := exchanging (.district .d2) f 3 (.window []) b
      (onLine e).line = some e ∧ 3 ≤ e.attempt ∧ e.orphan = b ∧ (onLine e).districts.get .d2 = some d2) ∧
    12 + 1 < 14 ∧ (onLine (exchanging (.district .d2) .readPoints 2 .quiet false)).districts.get .d2 = some d2 := by
  decide +kernel

/-- R127, R129, R135: the window of a third attempt runs out: the station is SILENT, the write is abandoned and the fault
handed over; of an orphan, the line is freed alone. -/
theorem test_third_attempt_lost :
    let lost (r : DistrictRec) (orphan : Bool) :=
      (after .replyWindowExpiry { onLine (exchanging (.district .d2) (.writeSetPoint 95) 3 (.window []) orphan) with
        districts := ⟨none, some r, none⟩ }).bind fun c => (c.districts.get .d2).map fun r =>
          (r.station.state, r.station.writeInFlight, c.faults.handed.length, c.line.isNone)
    lost { d2 with station := { d2.station with state := .responding, writeInFlight := some 95, readDue := 100000 } } false =
      some (.silent, none, 1, true) ∧
    lost (d2due 100000) true = some (d2.station.state, none, 0, true) := by decide +kernel

/-- A good reply, and one with a bad check, another address, another function, and another length byte. -/
def points : List Byte := telemetryFrame 11 1 (u24 16777215 ++ u16 601 ++ u8 101 ++ u16 106)

theorem witness_RepliesAreJudged :
    (∀ n ∈ [1, 3], let e := exchanging (.district .d2) .readPoints n (.window (points.take 13)) false
      (onLine e).powered = true ∧ (onLine e).line = some e ∧ (onLine e).districts.get .d2 = some d2 ∧ e.address < 256) ∧
    (points.take 13 ++ points.drop 13 = points ∧ points.length = 14 ∧ (points.drop 13).length = 1) ∧
    (16777215 < 16777216 ∧ 601 < 65536 ∧ 101 < 256 ∧ 106 < 65536) ∧
    (let w := telemetryFrame 11 2 (u16 95)
     w.length = 8 ∧ (w.drop 7).length = 1 ∧ w.drop 6 = checkBytes ((w.drop 1).take 5)) ∧
    (points.set 13 0#8).drop 12 ≠ checkBytes ((points.drop 1).take 11) ∧
    (∀ f ∈ [telemetryFrame 12 1 (List.replicate 8 0#8), telemetryFrame 11 2 (List.replicate 8 0#8)],
      f.length = 14 ∧ f.drop 12 = checkBytes ((f.drop 1).take 11)) ∧ u16 96 ≠ u16 95 ∧
    ∀ n ∈ [1, 2, 3], let e := exchanging (.district .d2) .readPoints n (.window (points.take 13)) true
      (onLine e).powered = true ∧ (onLine e).line = some e ∧ e.orphan = true ∧ e.address < 256 := by decide +kernel

theorem witness_StationsArePassedAndCleared :
    (0#8).toNat = 0 ∧ 32 ≤ (32#8).toNat ∧ 1 ≤ (1#8).toNat ∧ (31#8).toNat ≤ 31 ∧ waiting.pass.isSome = true ∧
    yard.pass = none ∧ (reading 13).pass = none ∧ (reading 13).line.isSome = true ∧ yard.line = none ∧
    districtOf (2#8).toNat = some .d2 ∧ yard.districts.get .d2 = some d2 ∧
    (∀ n ∈ [1, 3], let e := exchanging .pass .readPoints n (.window (points.take 13)) false
      (onLine e).powered = true ∧ (onLine e).line = some e ∧ (onLine e).pass.isSome = true ∧ e.address < 256) := by
  decide +kernel

/-! Sizes and replies -/

/-- A yard whose lists are full and whose counters stand at their ends. -/
def full : Ctl :=
  { queued 8 with
    line := some (exchanging (.district .d2) .readPoints 3 .quiet false)
    holders := ⟨none, some { h2 with discards := [10000, 10200], disagreeCount := 30, agreeCount := 30 }, none, none⟩
    districts := ⟨none, some { d2running with boosterCalled := true, boosterRun := 10, lowCount := 3 }, none⟩
    office := { yard.office with
      gate := true, queue := List.replicate 16 aNotice, outstanding := 8, replies := List.replicate 7 aReply
      sending := some (.reply aReply), noticeNumber := 255 } }

theorem witness_SizesAreKept : full.bounded ∧ full.repliesAccounted ∧ ∃ t, step ⟨[.minuteEvent], full⟩ = .next t := by
  refine ⟨⟨by decide +kernel, by decide +kernel, by decide +kernel, of_all (by decide +kernel), ?_, ?_⟩,
    fun _ => by decide +kernel, _, rfl⟩
  · exact fun h => of_all (by cases h <;> decide +kernel)
  · exact fun d => of_all (by cases d <;> decide +kernel)

theorem witness_RepliesAreAccounted : full.repliesAccounted ∧ ∃ t, step ⟨[.officeFrameSent], full⟩ = .next t :=
  ⟨fun _ => by decide +kernel, _, rfl⟩

/-! Orders and their valves -/

/-- A CHANGEOVER from H2 to H1 and an ISOLATE of H2 in a phase, and the yard of H1 and H2 with one order. -/
def changeoverIn (p : Phase) : Order := { fillIn (some p) with kind := .changeover, second := some .h1, endAction := none }
def isolateClosing : Order := { fillIn (some .closing) with kind := .isolate, endAction := none }
def twoWith (x y : HolderRec) (o : Order) (held : Bool) : Ctl :=
  { yard with holders := ⟨some x, some y, none, none⟩, seq := { yard.seq with orders := [o], held := held } }

/-- Of every phase: the valve it waits for, the one whose failure ends it, and the trips that strike it. -/
theorem witness_OrdersFollowTheirValves :
    (∀ o ∈ (yardOrders h2 [fillOfH2] false).seq.orders, o.phase.isSome = true → o.names .h2 = false) ∧
    (∀ o ∈ [fillIn (some .openingInlet), { fillIn (some .openingOutlet) with kind := .draw }, changeoverIn .openingNew,
        changeoverIn .closingOld, isolateClosing], ∀ held ∈ [true, false],
      (twoWith h2drawing h2drawing o held).seq.orders = [o] ∧ (twoWith h2drawing h2drawing o held).seq.held = held ∧
        o.phase.isSome = true ∧ (o.deadline = 60 ∧ o.minutesRun = 0)) ∧
    ((twoWith h2drawing h2drawing (changeoverIn .openingNew) false).holders.get .h1 = some h2drawing ∧
      (h2drawing.valve .outlet).state = .opened ∧ h2drawing.outlet.state ≠ .closed ∧
      (changeoverIn .openingNew).second = some .h1 ∧ (changeoverIn .openingNew).holder = .h2) ∧
    ((h2.valve .inlet).state = .closed ∧ (h2.valve .outlet).state = .closed ∧ h2drawing.inlet.state = .closed) ∧
    (isolateClosing.kind = .isolate ∧ { isolateClosing with minutesRun := 59 }.minutesRun + 1 = 60) ∧
    ((fillIn (some .runningFill)).names .h2 = true ∧ (fillIn (some .runningFill)).kind = .fill ∧
      (changeoverIn .openingNew).names .h1 = true ∧ (changeoverIn .openingNew).names .h2 = true ∧
      (fillIn (some .runningFill)).names .h1 = false) := by decide +kernel

/-- R74: the new outlet's arrival shuts the old one, the old one's ends the order; R76: a stuck new outlet is shut again and
the order ends FAILED; R77: a landing trip of the new holder ends it TRIP. -/
theorem test_changeover_steps_and_ends :
    let seen (c : Ctl) := (c.seq.orders.map Order.phase, c.seq.ended.map EndRecord.reason)
    let opening := twoWith h2drawing h2drawing (changeoverIn .openingNew) false
    let closing := twoWith h2drawing { h2drawing with outlet := { h2drawing.outlet with state := .closed } }
      (changeoverIn .closingOld) false
    let stuck := twoWith { h2drawing with outlet := { h2drawing.outlet with state := .stuck } } h2drawing
      (changeoverIn .openingNew) false
    (seen (opening.reportState .h1 .outlet .opened) = ([some .closingOld], []) ∧
      (opening.reportState .h1 .outlet .opened).valveIn .h2 .outlet .closing = true) ∧
    seen (closing.reportState .h2 .outlet .closed) = ([], [.done]) ∧
    (seen (stuck.reportState .h1 .outlet .stuck) = ([], [.failed]) ∧
      (stuck.reportState .h1 .outlet .stuck).valveIn .h1 .outlet .closing = true) ∧
    seen (opening.orderTrip .h1 .landing) = ([], [.trip]) ∧
    seen (closing.orderTrip .h2 .landing) = ([some .closingOld], []) := by decide +kernel

/-- R185: a day-start hour of 18 stored before 17:00 is not used by SET CLOCK until the next minute event. -/
theorem test_new_day_start_waits_for_the_minute :
    let c : Ctl := { yard with yard := some { YardDef.default with dayStart := 18 } }
    let days (c : Option Ctl) := c.map fun c => (c.acc.dayStart, c.acc.day.number)
    let set := Instr.setClock 1#8 [0x07#8, 0xE9#8, 11#8, 14#8, 18#8, 30#8, 0#8]
    days (after set c) = some (6, 1) ∧ days ((after .minuteEvent c).bind (after set)) = some (18, 2) := by
  decide +kernel

/-- R138, R198: YARD STATUS sends the state of the pass-through slot in one byte. -/
theorem test_pass_slot_states :
    [PassState.empty, .waiting, .inFlight].map PassState.code = [0, 1, 2] ∧ yard.passState = .empty ∧
      waiting.passState = .waiting := by decide +kernel

end Sys2Proof.Tests
end

section
/-! SUPPORT. The four flags of a holder (R25 to R31) and the pressure check (R36 to R39): what one sample makes of each,
what a run of samples makes of the check, and the statements FlagsFollowTheSample and PressureDisagreeTakesThirty. -/

namespace Sys2Proof.Supervision

open Machine

/-! ### The Landed and Top flags (R25, R26) -/

theorem landedAfter_below {margin h : Nat} (b : Bool) (below : h ≤ margin) : landedAfter margin h b = true :=
  if_pos below

theorem landedAfter_between {margin h : Nat} (b : Bool) (above : margin < h) (within : h ≤ margin + 100) :
    landedAfter margin h b = b := by
  rw [landedAfter, flagHysteresis, if_neg (Nat.not_le.2 above), if_pos within]

theorem landedAfter_above {margin h : Nat} (b : Bool) (above : margin + 100 < h) : landedAfter margin h b = false := by
  rw [landedAfter, flagHysteresis, if_neg (by omega), if_neg (Nat.not_le.2 above)]

theorem topAfter_above {hmax margin h : Nat} (b : Bool) (above : hmax ≤ h + margin) : topAfter hmax margin h b = true :=
  if_pos above

theorem topAfter_between {hmax margin h : Nat} (b : Bool) (below : h + margin < hmax)
    (within : hmax ≤ h + margin + 100) : topAfter hmax margin h b = b := by
  rw [topAfter, flagHysteresis, if_neg (Nat.not_le.2 below), if_pos within]

theorem topAfter_below {hmax margin h : Nat} (b : Bool) (below : h + margin + 100 < hmax) :
    topAfter hmax margin h b = false := by
  rw [topAfter, flagHysteresis, if_neg (by omega), if_neg (Nat.not_le.2 below)]

/-- R3: with the margins apart a sample never leaves both flags set: one crown height cannot lie within the hysteresis
of both. -/
theorem not_landedAfter_and_topAfter {hmax landing top h : Nat} (landed topped : Bool)
    (apart : landing + top + 200 < hmax) :
    ¬ (landedAfter landing h landed = true ∧ topAfter hmax top h topped = true) := by
  rintro ⟨isLanded, isTop⟩
  by_cases low : landing + 100 < h
  · simp [landedAfter_above landed low] at isLanded
  · simp [topAfter_below (h := h) topped (show h + top + 100 < hmax by omega)] at isTop

theorem landing_mem_tripsOf (before after : Flags) :
    TripKind.landing ∈ tripsOf before after ↔ before.landed = false ∧ after.landed = true := by
  simp [tripsOf, and_comm]

theorem top_mem_tripsOf (before after : Flags) :
    TripKind.top ∈ tripsOf before after ↔ before.top = false ∧ after.top = true := by
  simp [tripsOf, and_comm]

/-! ### The band flags (R29 to R31) -/

theorem bandAfter_of_holds (mode : BandMode) {holds : Bool} (away before : Bool) (on : holds = true) :
    bandAfter mode holds away before = true := by
  cases mode <;> simp [bandAfter, on]

theorem bandAfter_follow (holds away before : Bool) : bandAfter .follow holds away before = holds := rfl

theorem bandAfter_latch {holds : Bool} (away before : Bool) (off : holds = false) :
    bandAfter .latch holds away before = if away then false else before := by
  simp [bandAfter, off]

/-- Settles O38: each row is the rule of its flag. -/
theorem flagsFollowTheSample : Obligations.FlagsFollowTheSample := by
  unfold Obligations.FlagsFollowTheSample
  intro d conn f b a low high
  refine ⟨landedAfter_below _, landedAfter_between _, landedAfter_above _, topAfter_above _, topAfter_between _,
    topAfter_below _, not_landedAfter_and_topAfter _ _, landing_mem_tripsOf b a, top_mem_tripsOf b a,
    fun holds => bandAfter_of_holds _ _ _ (decide_eq_true holds),
    fun holds => bandAfter_of_holds _ _ _ (decide_eq_true holds),
    fun follow => ?_, fun latch off => ?_, fun latch off => ?_⟩
  · simp [a, flagsAfter, follow, bandAfter_follow, low, high]
  · have near : a.landingNear = if conn.fills then false else b.landingNear := by
      simp only [a, flagsAfter, latch]
      exact bandAfter_latch _ _ (decide_eq_false off)
    rw [near]
    exact ⟨by rintro (rfl | rfl) <;> rfl, by rintro (rfl | rfl) <;> rfl⟩
  · have near : a.topNear = if conn.draws then false else b.topNear := by
      simp only [a, flagsAfter, latch]
      exact bandAfter_latch _ _ (decide_eq_false off)
    rw [near]
    exact ⟨by rintro (rfl | rfl) <;> rfl, by rintro (rfl | rfl) <;> rfl⟩

/-! ### Checked and disagreeing samples (R36, R37) -/

theorem lt_distance_iff (a b n : Nat) : n < distance a b ↔ a + n < b ∨ b + n < a := by
  unfold distance
  omega

/-- R36: the travels of the first lifts, the offset at which the next begins. -/
def offsetOf (lifts : List Lift) (k : Nat) : Nat := ((lifts.take k).map Lift.travel).sum

theorem outsideCuppingFrom_iff (offset h : Nat) (lifts : List Lift) :
    outsideCuppingFrom offset h lifts = true ↔
      ∀ k, 1 ≤ k → k < lifts.length → cuppingHalf < distance h (offset + offsetOf lifts k) := by
  induction lifts generalizing offset with
  | nil => simp [outsideCuppingFrom]
  | cons l rest ih =>
    cases rest with
    | nil =>
      simp only [outsideCuppingFrom, List.length_cons, List.length_nil, true_iff]
      omega
    | cons m rest =>
      have shift (k : Nat) :
          offset + offsetOf (l :: m :: rest) (k + 1) = offset + l.travel + offsetOf (m :: rest) k := by
        simp [offsetOf, Nat.add_assoc]
      rw [outsideCuppingFrom, Bool.and_eq_true, ih, decide_eq_true_iff]
      constructor
      · rintro ⟨first, others⟩ k pos lt
        obtain ⟨k, rfl⟩ := Nat.exists_eq_add_of_le' pos
        rw [shift]
        rcases Nat.eq_zero_or_pos k with rfl | more
        · simpa [offsetOf] using first
        · exact others k more (by simpa using lt)
      · intro all
        refine ⟨?_, fun k pos lt => ?_⟩
        · simpa [shift, offsetOf] using all (0 + 1) (by omega) (by simp)
        · simpa [shift] using all (k + 1) (by omega) (by simpa using lt)

theorem checkedSample_iff (d : HolderDef) (f : Figures) (crownAccepted pressureAccepted : Bool) :
    checkedSample d f crownAccepted pressureAccepted = true ↔
      1 ≤ f.lifts ∧ d.landingMargin < f.h ∧
      (∀ k, 1 ≤ k → k < d.lifts.length → f.h + 150 < offsetOf d.lifts k ∨ offsetOf d.lifts k + 150 < f.h) ∧
      pressureAccepted = true ∧ crownAccepted = true := by
  simp [checkedSample, outsideCuppingFrom_iff, lt_distance_iff, cuppingHalf, and_assoc]

theorem disagrees_iff {d : HolderDef} {f : Figures} {p : Nat} (expected : d.expected[f.lifts - 1]? = some p) :
    disagrees d f = true ↔ f.pg + d.tolerance < p ∨ p + d.tolerance < f.pg := by
  simp [disagrees, HolderDef.expectedAt, expected, lt_distance_iff]

/-! ### The pressure check (R37 to R39) -/

theorem after_unchecked (k : CheckResult) (x : Bool) : k.after (false, x) = { k with gained := false } := rfl

/-- R37: a counter that stops at 30 comes to 30 at its thirtieth sample alone. -/
theorem comes_to_thirty (n : Nat) : (decide (n < 30) && min (n + 1) 30 == 30) = decide (n = 29) := by
  rw [Bool.eq_iff_iff]
  simp only [Bool.and_eq_true, decide_eq_true_eq, beq_iff_eq]
  omega

theorem after_disagreeing (k : CheckResult) : k.after (true, true) =
    { disagreeCount := min (k.disagreeCount + 1) 30, agreeCount := 0
      reason := k.reason || decide (k.disagreeCount = 29)
      gained := decide (k.disagreeCount = 29) && !k.reason } := by
  have gains (had comes : Bool) : (had || (comes && !had)) = (had || comes) := by cases had <;> simp
  rw [← gains, ← comes_to_thirty]
  rfl

theorem after_agreeing (k : CheckResult) : k.after (true, false) =
    { disagreeCount := 0, agreeCount := min (k.agreeCount + 1) 30
      reason := k.reason && !decide (k.agreeCount = 29), gained := false } := by
  rw [← comes_to_thirty]
  rfl

theorem run_append (k : CheckResult) (samples : List (Bool × Bool)) (x : Bool × Bool) :
    k.run (samples ++ [x]) = (k.run samples).after x := by
  simp [CheckResult.run]

/-- The checked samples of a run. -/
def checkedCount (samples : List (Bool × Bool)) : Nat := (samples.filter Prod.fst).length

theorem checkedCount_append (samples : List (Bool × Bool)) (x : Bool × Bool) :
    checkedCount (samples ++ [x]) = checkedCount samples + x.1.toNat := by
  obtain ⟨checked, disagree⟩ := x
  cases checked <;> simp [checkedCount]

/-! One more checked sample of a run, counted from n. -/

theorem thirty_counted (n : Nat) : min (min n 30 + 1) 30 = min (n + 1) 30 := by omega

theorem thirty_reached (n : Nat) : (decide (30 ≤ n) || decide (min n 30 = 29)) = decide (30 ≤ n + 1) := by
  rw [Bool.eq_iff_iff]
  simp only [Bool.or_eq_true, decide_eq_true_eq]
  omega

theorem thirty_gained (n : Nat) : (decide (min n 30 = 29) && !decide (30 ≤ n)) = decide (n + 1 = 30) := by
  rw [Bool.eq_iff_iff]
  simp only [Bool.and_eq_true, Bool.not_eq_true', decide_eq_true_eq, decide_eq_false_iff_not]
  omega

theorem thirty_lost (n : Nat) : (decide (n < 30) && !decide (min n 30 = 29)) = decide (n + 1 < 30) := by
  rw [Bool.eq_iff_iff]
  simp only [Bool.and_eq_true, Bool.not_eq_true', decide_eq_true_eq, decide_eq_false_iff_not]
  omega

/-- R37, R38: a run whose checked samples all disagree: the thirtieth of them gains PRESSURE DISAGREE, and it alone. -/
theorem run_disagreeing (k : CheckResult) (zero : k.disagreeCount = 0) (clear : k.reason = false)
    (samples : List (Bool × Bool)) (all : ∀ p ∈ samples, p.1 = true → p.2 = true) :
    (k.run samples).disagreeCount = min (checkedCount samples) 30 ∧
    (k.run samples).reason = decide (30 ≤ checkedCount samples) ∧
    (samples ≠ [] → (k.run samples).gained =
      (decide (checkedCount samples = 30) && (samples.getLast?.map Prod.fst == some true))) := by
  obtain ⟨recent, rfl⟩ : ∃ recent, samples = recent.reverse := ⟨samples.reverse, by simp⟩
  induction recent with
  | nil => simp [CheckResult.run, checkedCount, zero, clear]
  | cons x recent ih =>
    rw [List.reverse_cons] at all ⊢
    obtain ⟨count, reason, -⟩ := ih fun p mem => all p (by simp [mem])
    obtain ⟨checked, disagree⟩ := x
    rw [run_append, checkedCount_append]
    cases checked with
    | false => simp [after_unchecked, count, reason]
    | true =>
      obtain rfl : disagree = true := all (true, disagree) (by simp) rfl
      rw [after_disagreeing, count, reason]
      refine ⟨thirty_counted _, thirty_reached _, fun _ => ?_⟩
      rw [thirty_gained]
      simp

/-- R37, R39: a run whose checked samples all agree: the thirtieth of them removes PRESSURE DISAGREE; none gains it. -/
theorem run_agreeing (k : CheckResult) (zero : k.agreeCount = 0) (had : k.reason = true)
    (samples : List (Bool × Bool)) (all : ∀ p ∈ samples, p.1 = true → p.2 = false) :
    (k.run samples).agreeCount = min (checkedCount samples) 30 ∧
    (k.run samples).reason = decide (checkedCount samples < 30) ∧
    (samples ≠ [] → (k.run samples).gained = false) := by
  obtain ⟨recent, rfl⟩ : ∃ recent, samples = recent.reverse := ⟨samples.reverse, by simp⟩
  induction recent with
  | nil => simp [CheckResult.run, checkedCount, zero, had]
  | cons x recent ih =>
    rw [List.reverse_cons] at all ⊢
    obtain ⟨count, reason, -⟩ := ih fun p mem => all p (by simp [mem])
    obtain ⟨checked, disagree⟩ := x
    rw [run_append, checkedCount_append]
    cases checked with
    | false => simp [after_unchecked, count, reason]
    | true =>
      obtain rfl : disagree = false := all (true, disagree) (by simp) rfl
      rw [after_agreeing, count, reason]
      exact ⟨thirty_counted _, thirty_lost _, fun _ => rfl⟩

/-- R36 to R39: the supervision of a complete sample is one sample of the check. -/
theorem stage5_check (r : HolderRec) (f : Figures) (baroLost : Bool) :
    let e := (CheckResult.mk r.disagreeCount r.agreeCount r.reasons.pressureDisagree false).after
      (checkedSample r.defn f (!r.crown.held) (!r.pressure.held), disagrees r.defn f)
    let q := r.stage5 f baroLost
    q.1.disagreeCount = e.disagreeCount ∧ q.1.agreeCount = e.agreeCount ∧ q.1.reasons.pressureDisagree = e.reason ∧
      q.2 = e.gained := ⟨rfl, rfl, rfl, rfl⟩

/-- Settles O39: the readings of the check, one sample of it, and by induction a run of samples. -/
theorem pressureDisagreeTakesThirty : Obligations.PressureDisagreeTakesThirty := by
  unfold Obligations.PressureDisagreeTakesThirty
  refine ⟨fun d f crown pressure => ⟨checkedSample_iff d f crown pressure, fun p _ => disagrees_iff⟩,
    fun k => ?_, stage5_check, fun k samples => ⟨fun all zero clear => run_disagreeing k zero clear samples all,
      fun all zero had => run_agreeing k zero had samples all⟩⟩
  rw [after_disagreeing, after_agreeing]
  exact ⟨rfl, rfl, rfl, rfl, after_unchecked k⟩

end Sys2Proof.Supervision
end

section
/-! SUPPORT. A gauge sample that trips a valve (R27, R55 to R59): posted notices and faults handed over as relations
between controllers, a valve shut, the consequences of a trip, and the statement TripsShutTheValves. -/

namespace Sys2Proof.Supervision

open Machine

/-! ### Posts alone -/

/-- The controller t comes from c by posted notices alone. -/
def onlyPosts (c t : Ctl) : Prop := t = { c with office := t.office } ∧ t.office.samePosts c.office

theorem onlyPosts_refl (c : Ctl) : onlyPosts c c := ⟨rfl, Office.samePosts_refl _⟩

theorem onlyPosts_trans {a b d : Ctl} (ab : onlyPosts a b) (bd : onlyPosts b d) : onlyPosts a d := by
  obtain ⟨e1, p1⟩ := ab
  obtain ⟨e2, p2⟩ := bd
  refine ⟨?_, Office.samePosts_trans p2 p1⟩
  rw [e1] at e2
  exact e2

theorem onlyPosts_post (c : Ctl) (n : NoticeContent) : onlyPosts c (c.post n) :=
  ⟨by rw [Ctl.post_eq], c.post_samePosts n⟩

theorem onlyPosts_bandNotice (c : Ctl) (h : HolderId) (before : Flags) (r : HolderRec) (f : Figures) :
    onlyPosts c (c.bandNotice h before r f) := by
  unfold Ctl.bandNotice
  dsimp only
  split
  · exact onlyPosts_post c _
  · exact onlyPosts_refl c

theorem onlyPosts_releaseNotice (c : Ctl) (d : DistrictId) (before after : DistrictRec) (cause : ReleaseCause) :
    onlyPosts c (c.releaseNotice d before after cause) := by
  unfold Ctl.releaseNotice
  split
  · exact onlyPosts_post c _
  · exact onlyPosts_refl c

/-! ### Faults handed over -/

/-- Faults handed to the Fault Recorder one after another, and nothing else. -/
def handing (c : Ctl) (faults : List FaultReport) : Ctl :=
  { c with faults := { c.faults with handed := c.faults.handed ++ faults } }

@[simp] theorem handing_nil (c : Ctl) : handing c [] = c := by simp [handing]

@[simp] theorem handing_handing (c : Ctl) (l m : List FaultReport) : handing (handing c l) m = handing c (l ++ m) := by
  simp [handing]

theorem raise_eq_handing (c : Ctl) (f : FaultReport) : c.raise f = handing c [f] := rfl

theorem foldl_raise (l : List FaultReport) (c : Ctl) : l.foldl Ctl.raise c = handing c l := by
  induction l generalizing c with
  | nil => simp
  | cons f l ih => simp [ih, raise_eq_handing]

theorem onlyPosts_handing {c t : Ctl} (l : List FaultReport) (p : onlyPosts c t) :
    onlyPosts (handing c l) (handing t l) := by
  obtain ⟨e, same⟩ := p
  refine ⟨?_, same⟩
  rw [e]
  rfl

/-- R27: step 6 hands over the fault of every trip, in order, and posts notices besides. -/
theorem onlyPosts_tripNotices (h : HolderId) (f : Figures) (kinds : List TripKind) (c : Ctl) :
    onlyPosts (handing c (kinds.map fun k => tripFault h k f)) (kinds.foldl (Ctl.tripNotice h f) c) := by
  induction kinds generalizing c with
  | nil => simpa using onlyPosts_refl c
  | cons k kinds ih =>
    have first : onlyPosts (handing c [tripFault h k f]) (c.tripNotice h f k) :=
      onlyPosts_handing _ (onlyPosts_post c _)
    have rest := onlyPosts_trans (onlyPosts_handing (kinds.map fun k => tripFault h k f) first) (ih _)
    simpa using rest

/-- R38: step 7 hands over GAUGE DISAGREE at the gain. -/
theorem disagreeNotice_eq (c : Ctl) (h : HolderId) (gained : Bool) (d : HolderDef) (f : Figures) :
    ∃ l, c.disagreeNotice h gained d f = handing c l := by
  cases gained
  · exact ⟨[], by simp [Ctl.disagreeNotice]⟩
  · exact ⟨_, rfl⟩

/-! ### A valve shut (R46, R47) -/

/-- R46, R47: what a command to CLOSED leaves of a valve. -/
def shutValve (w : ValveRec) (src : Source) : ValveRec :=
  let x : ValveRec := { w with commanded := some .closed, source := src }
  if w.state = .closing ∨ w.state = .closed then x
  else { x with state := .closing, timeout := some (3 * w.travelTime / 2), timeoutLength := 3 * w.travelTime / 2 }

/-- R46, R51: what a command to CLOSED leaves of a holder's record. -/
def shutHolder (q : HolderRec) (side : Side) (src : Source) : HolderRec :=
  let y := shutValve (q.valve side) src
  { q.putValve side y with conn := (q.putValve side y).connection }

/-- R46: the event of a command to CLOSED, where the state of the valve changes. -/
def shutEvent (w : ValveState) : Option ValveEvent :=
  if w = .closing ∨ w = .closed then none else some (if w = .opening then .reversed else .moving)

theorem valve_take_closed (w : ValveRec) (src : Source) :
    w.take .closed src = (shutValve w src, shutEvent w.state) := by
  obtain ⟨commanded, source, state, limits, travelTime, timeout, timeoutLength⟩ := w
  cases state <;> rfl

theorem holder_take_closed (q : HolderRec) (side : Side) (src : Source) :
    q.take side .closed src = (shutHolder q side src, shutEvent (q.valve side).state) := by
  unfold HolderRec.take
  rw [valve_take_closed]
  rfl

theorem shutHolder_valve (q : HolderRec) (side : Side) (src : Source) :
    (shutHolder q side src).valve side = shutValve (q.valve side) src := by
  cases side <;> rfl

@[simp] theorem shutValve_commanded (w : ValveRec) (src : Source) : (shutValve w src).commanded = some .closed := by
  unfold shutValve
  dsimp only
  split <;> rfl

@[simp] theorem shutValve_source (w : ValveRec) (src : Source) : (shutValve w src).source = src := by
  unfold shutValve
  dsimp only
  split <;> rfl

@[simp] theorem shutValve_limits (w : ValveRec) (src : Source) : (shutValve w src).limits = w.limits := by
  unfold shutValve
  dsimp only
  split <;> rfl

theorem shutValve_state (w : ValveRec) (src : Source) :
    (shutValve w src).state = if w.state = .closed then .closed else .closing := by
  obtain ⟨commanded, source, state, limits, travelTime, timeout, timeoutLength⟩ := w
  cases state <;> rfl

/-! ### Commanded positions of a side (R54 to R56) -/

theorem valveIs_commandedOpen_iff (c : Ctl) (h : HolderId) (side : Side) :
    c.valveIs h side ValveRec.commandedOpen = true ↔
      ∃ x, c.holders.get h = some x ∧ (x.valve side).commanded = some .opened := by
  unfold Ctl.valveIs ValveRec.commandedOpen
  cases c.holders.get h <;> simp

theorem mem_allHolders (h : HolderId) : h ∈ allHolders := by cases h <;> decide

theorem anyCommandedOpen_iff (c : Ctl) (side : Side) : c.anyCommandedOpen side = true ↔
    ∃ i x, c.holders.get i = some x ∧ (x.valve side).commanded = some .opened := by
  simp [Ctl.anyCommandedOpen, mem_allHolders, valveIs_commandedOpen_iff]

/-- Once a holder's valve is commanded CLOSED, a valve of that side is commanded OPEN only at another holder. -/
theorem anyCommandedOpen_of_shut {c : Ctl} {p : PerHolder (Option HolderRec)} {h : HolderId} {side : Side}
    {q : HolderRec} (eq : c.holders = p.put h (some q)) (closed : (q.valve side).commanded = some .closed) :
    c.anyCommandedOpen side = true ↔
      ∃ i x, i ≠ h ∧ p.get i = some x ∧ (x.valve side).commanded = some .opened := by
  rw [anyCommandedOpen_iff, eq]
  constructor
  · rintro ⟨i, x, get, opened⟩
    by_cases ne : i = h
    · subst ne
      simp only [PerHolder.get_put_self, Option.some.injEq] at get
      subst get
      simp [closed] at opened
    · exact ⟨i, x, ne, by simpa [ne] using get, opened⟩
  · rintro ⟨i, x, ne, get, opened⟩
    exact ⟨i, x, by simpa [ne] using get, opened⟩

/-! ### Starvation (R104) -/

theorem starve_eq_outletLost (h : HolderId) (r : DistrictRec) :
    (if r.prog.state.runs = true then r.starve h else r) = r.outletLost h := by
  unfold DistrictRec.outletLost
  cases st : r.prog.state <;> simp [ProgState.runs, DistrictRec.starve, DistrictRec.releaseBooster, st]

/-- R104: the programme of one district starved where it runs, and nothing else. -/
def districtStarved (h : HolderId) (c : Ctl) (d : DistrictId) : Ctl :=
  { c with districts := c.districts.put d ((c.districts.get d).map (DistrictRec.outletLost h)) }

theorem onlyPosts_districtStarved {c t : Ctl} (h : HolderId) (d : DistrictId) (p : onlyPosts c t) :
    onlyPosts (districtStarved h c d) (districtStarved h t d) := by
  obtain ⟨e, same⟩ := p
  refine ⟨?_, same⟩
  rw [e]
  rfl

theorem onlyPosts_starveDistrict (h : HolderId) (c : Ctl) (d : DistrictId) :
    onlyPosts (districtStarved h c d) (c.starveDistrict h d) := by
  unfold Ctl.starveDistrict
  cases get : c.districts.get d with
  | none =>
    have same : districtStarved h c d = c := by
      have put : c.districts.put d none = c.districts := get ▸ c.districts.put_get d
      simp [districtStarved, get, put]
    rw [same]
    exact onlyPosts_refl c
  | some r =>
    have lost := starve_eq_outletLost h r
    have starved : districtStarved h c d = c.putDistrict d (some (r.outletLost h)) := by
      simp [districtStarved, get, Ctl.putDistrict]
    rw [starved, ← lost]
    dsimp only
    split
    · exact onlyPosts_trans (onlyPosts_post _ _) (onlyPosts_releaseNotice ..)
    · have same : c.putDistrict d (some r) = c := by
        have put : c.districts.put d (some r) = c.districts := get ▸ c.districts.put_get d
        simp [Ctl.putDistrict, put]
      rw [same]
      exact onlyPosts_refl c

/-- R104: the lost outlet starves every running programme, and notices are posted besides. -/
theorem onlyPosts_starve (c : Ctl) (h : HolderId) :
    onlyPosts { c with districts := c.districts.each (DistrictRec.outletLost h) } (c.starve h) := by
  have fold : ∀ (l : List DistrictId) (c t : Ctl), onlyPosts c t →
      onlyPosts (l.foldl (districtStarved h) c) (l.foldl (Ctl.starveDistrict h) t) := by
    intro l
    induction l with
    | nil => exact fun c t p => p
    | cons d l ih =>
      exact fun c t p => ih _ _ (onlyPosts_trans (onlyPosts_districtStarved h d p) (onlyPosts_starveDistrict h t d))
  exact fold allDistricts c c (onlyPosts_refl c)

/-! ### The sample of a holder (R9, R24) -/

theorem exec_holderSample {s : State} (h : HolderId) (k1 k2 k3 : Code) (on : s.ctl.powered = true) :
    exec (.holderSample h k1 k2 k3) s = .next (s.withCtl (s.ctl.holderSample h ⟨k1, k2, k3⟩)) :=
  State.event_powered (fun c => c.holderSample h ⟨k1, k2, k3⟩) on

/-- What a sample and its trips leave before the orders hear of them: the holder's record, the districts, make relief,
the faults handed over, and the office. -/
def afterSample (c : Ctl) (h : HolderId) (q : HolderRec) (ds : PerDistrict (Option DistrictRec)) (relief : Bool)
    (faults : List FaultReport) (o : Office) : Ctl :=
  { c with
    holders := c.holders.put h (some q), districts := ds, relief := relief
    faults := { c.faults with handed := c.faults.handed ++ faults }, office := o }

theorem finishSample_of_figures {c : Ctl} (h : HolderId) {r : HolderRec} {f : Figures}
    (figures : r.sampleFigures c.baro.value = some f) : c.finishSample h r = c.completeSample h r f := by
  simp [Ctl.finishSample, figures]

/-- R9: the sample of a defined holder whose figures can be formed, up to its trips: its record is that of stage 5, the
faults handed over hold that of every trip, and only notices are posted besides. The trips and the orders follow. -/
theorem holderSample_complete {c : Ctl} {h : HolderId} {r r0 q : HolderRec} {k : Codes} {f : Figures}
    (get : c.holders.get h = some r)
    (taken : r0 =
      r.takeReadings (r.defn.readings k) (crownTake r.crown r.discards (r.defn.readings k).crown) c.clock.minute)
    (figures : r0.sampleFigures c.baro.value = some f) (staged : q = (r0.stage5 f c.baro.lost).1) :
    ∃ o faults, o.samePosts c.office ∧ (∀ kind ∈ tripsOf r.flags q.flags, tripFault h kind f ∈ faults) ∧
      c.holderSample h k = ((tripsOf r.flags q.flags).foldl (fun c kind => c.trip h kind)
        (afterSample c h q c.districts c.relief faults o)).giveSample h { stock := f.stock, flags := q.flags } := by
  let trips := tripsOf r.flags q.flags
  let tripFaults := trips.map fun kind => tripFault h kind f
  let gauge := r.gaugeFaults h k (r.defn.readings k) (crownTake r.crown r.discards (r.defn.readings k).crown)
  let c1 := trips.foldl (Ctl.tripNotice h f) (((handing c gauge).putHolder h (some q)).bandNotice h r.flags q f)
  obtain ⟨disagree, told⟩ := disagreeNotice_eq c1 h (r0.stage5 f c.baro.lost).2 q.defn f
  have sample : c.holderSample h k = (trips.foldl (fun c kind => c.trip h kind)
      (handing c1 disagree)).giveSample h { stock := f.stock, flags := q.flags } := by
    have start : c.holderSample h k = (handing c gauge).finishSample h r0 := by
      rw [← foldl_raise, taken]
      simp [Ctl.holderSample, get, gauge]
    rw [start, finishSample_of_figures (c := handing c gauge) h figures, ← told]
    subst staged taken
    rfl
  have posts :
      onlyPosts (handing (c.putHolder h (some q)) (gauge ++ (tripFaults ++ disagree))) (handing c1 disagree) := by
    rw [← handing_handing, ← handing_handing]
    have band := onlyPosts_handing tripFaults (onlyPosts_bandNotice ((handing c gauge).putHolder h (some q)) h r.flags q f)
    exact onlyPosts_handing _ (onlyPosts_trans band (onlyPosts_tripNotices ..))
  obtain ⟨eq, same⟩ := posts
  refine ⟨(handing c1 disagree).office, gauge ++ (tripFaults ++ disagree), same, ?_, ?_⟩
  · intro kind mem
    have : tripFault h kind f ∈ tripFaults := List.mem_map_of_mem mem
    simp [this]
  · rw [sample, eq]
    rfl

/-! ### Trips (R55 to R57) -/

/-- R59: the VALVE notice of a trip that has shut a side. -/
def tripNote (h : HolderId) (side : Side) (src : Source) (q : HolderRec) (relief changed : Bool) : NoticeContent :=
  let w := (q.valve side).state
  .valve { holder := h, side := side
           event := if w = .closing ∨ w = .closed then .tripHeld else if w = .opening then .reversed else .moving
           state := if w = .closed then .closed else .closing, commanded := some .closed, source := src
           limits := (q.valve side).limits, conn := (shutHolder q side src).connection, relief := relief
           reliefChanged := changed }

theorem shutEvent_getD (w : ValveState) : (shutEvent w).getD .tripHeld =
    if w = .closing ∨ w = .closed then .tripHeld else if w = .opening then .reversed else .moving := by
  cases w <;> rfl

theorem valveContent_shut (h : HolderId) (side : Side) (src : Source) (q : HolderRec) (relief changed : Bool) :
    valveContent h side ((shutEvent (q.valve side).state).getD .tripHeld) (shutHolder q side src) relief changed =
      tripNote h side src q relief changed := by
  simp [valveContent, tripNote, shutHolder_valve, shutValve_state, shutEvent_getD]

/-- R55, R56: a trip of a defined holder: the valve shut, the consequence, the orders told, and the VALVE notice. -/
theorem trip_eq {c : Ctl} {h : HolderId} {q : HolderRec} (kind : TripKind) (get : c.holders.get h = some q) :
    let t := (c.putHolder h (some (shutHolder q kind.side kind.source))).tripConsequence h kind
    c.trip h kind =
      (t.orderTrip h kind).post (tripNote h kind.side kind.source q t.relief (c.relief != t.relief)) := by
  intro t
  simp only [Ctl.trip, get, holder_take_closed, valveContent_shut, t]

/-- A valve of a side of another defined holder is commanded OPEN. -/
def openElsewhere (c : Ctl) (h : HolderId) (side : Side) : Prop :=
  ∃ i x, i ≠ h ∧ c.holders.get i = some x ∧ (x.valve side).commanded = some .opened

theorem afterSample_anyCommandedOpen (c : Ctl) (h : HolderId) (q : HolderRec) (ds : PerDistrict (Option DistrictRec))
    (relief : Bool) (faults : List FaultReport) (o : Office) (side : Side) (src : Source) :
    (afterSample c h (shutHolder q side src) ds relief faults o).anyCommandedOpen side = true ↔
      openElsewhere c h side :=
  anyCommandedOpen_of_shut rfl (by simp [shutHolder_valve])

theorem trip_afterSample {c t : Ctl} {h : HolderId} {q : HolderRec} {faults : List FaultReport} {o : Office}
    (kind : TripKind)
    (left : (afterSample c h (shutHolder q kind.side kind.source) c.districts c.relief faults o).tripConsequence h kind
      = t) :
    (afterSample c h q c.districts c.relief faults o).trip h kind =
      (t.orderTrip h kind).post (tripNote h kind.side kind.source q t.relief (c.relief != t.relief)) := by
  have trip := trip_eq (c := afterSample c h q c.districts c.relief faults o) (h := h) (q := q) kind
    (by simp [afterSample])
  subst left
  simpa [Ctl.putHolder, afterSample] using trip

/-- R55: the landing trip of a sample: the outlet shut, and the programmes starved where no other outlet is commanded
OPEN. -/
theorem trip_landing (c : Ctl) (h : HolderId) (q : HolderRec) (faults : List FaultReport) {o : Office}
    (same : o.samePosts c.office) :
    ∃ ds o', o'.samePosts c.office ∧ (openElsewhere c h .outlet → ds = c.districts) ∧
      (¬ openElsewhere c h .outlet → ds = c.districts.each (DistrictRec.outletLost h)) ∧
      (afterSample c h q c.districts c.relief faults o).trip h .landing =
        ((afterSample c h (shutHolder q .outlet .landingTrip) ds c.relief faults o').orderTrip h .landing).post
          (tripNote h .outlet .landingTrip q c.relief (c.relief != c.relief)) := by
  let c1 := afterSample c h (shutHolder q .outlet .landingTrip) c.districts c.relief faults o
  have any : c1.anyCommandedOpen .outlet = true ↔ openElsewhere c h .outlet := afterSample_anyCommandedOpen ..
  by_cases other : openElsewhere c h .outlet
  · have left : c1.tripConsequence h .landing = c1 := by simp [Ctl.tripConsequence, any.2 other]
    exact ⟨c.districts, o, same, fun _ => rfl, fun alone => absurd other alone, trip_afterSample .landing left⟩
  · obtain ⟨starved, posts⟩ := onlyPosts_starve c1 h
    have left : c1.tripConsequence h .landing = c1.starve h := by simp [Ctl.tripConsequence, mt any.1 other]
    exact ⟨c.districts.each (DistrictRec.outletLost h), (c1.starve h).office, Office.samePosts_trans posts same,
      fun yes => absurd yes other, fun _ => rfl, trip_afterSample .landing (left.trans starved)⟩

/-- R56, R57: the top trip of a sample: the inlet shut, and make relief asserted where no other inlet is commanded OPEN
with make flowing. -/
theorem trip_top (c : Ctl) (h : HolderId) (q : HolderRec) (faults : List FaultReport) (o : Office) :
    ∃ relief, (openElsewhere c h .inlet ∨ c.makeFlowing = false → relief = c.relief) ∧
      (¬ openElsewhere c h .inlet → c.makeFlowing = true → relief = true) ∧
      (afterSample c h q c.districts c.relief faults o).trip h .top =
        ((afterSample c h (shutHolder q .inlet .topTrip) c.districts relief faults o).orderTrip h .top).post
          (tripNote h .inlet .topTrip q relief (c.relief != relief)) := by
  let c1 := afterSample c h (shutHolder q .inlet .topTrip) c.districts c.relief faults o
  have any : c1.anyCommandedOpen .inlet = true ↔ openElsewhere c h .inlet := afterSample_anyCommandedOpen ..
  have flows : c1.makeFlowing = c.makeFlowing := rfl
  by_cases asserts : ¬ openElsewhere c h .inlet ∧ c.makeFlowing = true
  · obtain ⟨alone, flowing⟩ := asserts
    have left : c1.tripConsequence h .top = { c1 with relief := true } := by
      simp [Ctl.tripConsequence, mt any.1 alone, flows, flowing]
    exact ⟨true, fun excused => by simp [alone, flowing] at excused, fun _ _ => rfl, trip_afterSample .top left⟩
  · have left : c1.tripConsequence h .top = c1 := by
      refine if_neg ?_
      simpa [← any, flows] using asserts
    exact ⟨c.relief, fun _ => rfl, fun alone flowing => absurd ⟨alone, flowing⟩ asserts, trip_afterSample .top left⟩

/-! ### What the orders of an unengaged holder do -/

theorem engaged_of_unengaged {c : Ctl} {h : HolderId} (free : c.unengaged h) : c.engaged h = false := by
  unfold Ctl.unengaged at free
  simpa [Ctl.engaged, Order.active] using free

theorem giveSample_of_unengaged {c : Ctl} {h : HolderId} (g : Given) (free : c.unengaged h) : c.giveSample h g = c := by
  simp [Ctl.giveSample, engaged_of_unengaged free]

theorem orderTrip_of_unengaged {c : Ctl} {h : HolderId} (kind : TripKind) (free : c.unengaged h) :
    c.orderTrip h kind = c := by
  have quiet : c.engager h = none := by
    unfold Ctl.unengaged at free
    simpa [Ctl.engager, Order.active] using free
  simp [Ctl.orderTrip, quiet]

theorem unengaged_post {c : Ctl} {h : HolderId} (n : NoticeContent) (free : c.unengaged h) :
    (c.post n).unengaged h := by
  simpa [Ctl.unengaged] using free

theorem unengaged_afterSample {c : Ctl} {h : HolderId} {q : HolderRec} {ds : PerDistrict (Option DistrictRec)}
    {relief : Bool} {faults : List FaultReport} {o : Office} (free : c.unengaged h) :
    (afterSample c h q ds relief faults o).unengaged h := free

theorem tripTold_of_unengaged {c : Ctl} {h : HolderId} (kind : TripKind) (n : NoticeContent) (g : Given)
    (free : c.unengaged h) : ((c.orderTrip h kind).post n).giveSample h g = c.post n := by
  rw [orderTrip_of_unengaged kind free, giveSample_of_unengaged g (unengaged_post n free)]

theorem tripsOf_cases (before after : Flags) : tripsOf before after = [] ∨ tripsOf before after = [.landing] ∨
    tripsOf before after = [.top] ∨ tripsOf before after = [.landing, .top] := by
  unfold tripsOf
  split <;> split <;> simp

/-- Settles O42: `holderSample_complete` brings the sample to its trips, and `trip_landing` and `trip_top` say what each
leaves. -/
theorem tripsShutTheValves : Obligations.TripsShutTheValves := by
  unfold Obligations.TripsShutTheValves
  intro s h k1 k2 k3 r f on get c v crown r0 figures q given run shut note elsewhere
  obtain ⟨o, faults, same, raised, sample⟩ :=
    holderSample_complete (c := c) (k := ⟨k1, k2, k3⟩) (r0 := r0) (q := q) get rfl figures rfl
  have ran : run = .next (s.withCtl (c.holderSample h ⟨k1, k2, k3⟩)) := exec_holderSample h k1 k2 k3 on
  rw [sample] at ran
  rcases tripsOf_cases r.flags q.flags with trips | trips | trips | trips
  · simp only [trips, List.foldl_nil] at ran
    refine ⟨c.districts, c.relief, faults, o, q, same, fun _ => ⟨ran, fun free => ?_, rfl, rfl, rfl⟩,
      fun other => ?_, fun other => ?_⟩
    · rw [ran, giveSample_of_unengaged _ (unengaged_afterSample free)]
      rfl
    · simp [trips] at other
    · simp [trips] at other
  · obtain ⟨ds, o', same', kept, starved, trip⟩ := trip_landing c h q faults same
    simp only [trips, List.foldl_cons, List.foldl_nil, trip] at ran
    refine ⟨ds, c.relief, faults, o', _, same', fun other => ?_,
      fun _ => ⟨⟨ran, fun free => ?_⟩, rfl, rfl, kept, starved, raised .landing (by simp [trips])⟩, fun other => ?_⟩
    · simp [trips] at other
    · rw [ran, tripTold_of_unengaged .landing _ _ (unengaged_afterSample free)]
      rfl
    · simp [trips] at other
  · obtain ⟨relief, kept, asserted, trip⟩ := trip_top c h q faults o
    simp only [trips, List.foldl_cons, List.foldl_nil, trip] at ran
    refine ⟨c.districts, relief, faults, o, _, same, fun other => ?_, fun other => ?_,
      fun _ => ⟨⟨ran, fun free => ?_⟩, rfl, rfl, kept, asserted, raised .top (by simp [trips])⟩⟩
    · simp [trips] at other
    · simp [trips] at other
    · rw [ran, tripTold_of_unengaged .top _ _ (unengaged_afterSample free)]
      rfl
  · refine ⟨c.districts, c.relief, faults, o, q, same, fun other => ?_, fun other => ?_, fun other => ?_⟩ <;>
      simp [trips] at other

end Sys2Proof.Supervision
end

section
/-! SUPPORT. STORE_OPERATION_DONE (R184): what it does with and without an operation that could end, and the statement
SettingsWritesEnd. -/

namespace Sys2Proof.Supervision

open Machine

/-! ### Ends of store operations (R184) -/

theorem exec_storeOperationDone {s : State} (verified : Bool) (on : s.ctl.powered = true) :
    exec (.storeOperationDone verified) s = .next (s.withCtl (s.ctl.operationDone verified)) :=
  State.event_powered (fun c => c.operationDone verified) on

theorem operationDone_without {c : Ctl} (verified : Bool) (idle : c.store.op = none) :
    c.operationDone verified = c := by
  simp [Ctl.operationDone, idle]

theorem operationDone_foreign {c : Ctl} {op : StoreOp} (verified : Bool) (busy : c.store.op = some op)
    (foreign : op.rollback = true ∨ op.work = .clear) : c.operationDone verified = c := by
  rcases foreign with rewriting | clear
  · simp [Ctl.operationDone, busy, rewriting]
  · simp [Ctl.operationDone, busy, clear]

theorem operationDone_unverified {c : Ctl} {op : StoreOp} (busy : c.store.op = some op) (first : op.rollback = false)
    (single : op.work ≠ .clear) :
    c.operationDone false = { c with store := { c.store with op := some { op with rollback := true } } } := by
  simp [Ctl.operationDone, busy, first, single]

theorem operationDone_verified {c : Ctl} {op : StoreOp} (busy : c.store.op = some op) (first : op.rollback = false)
    (single : op.work ≠ .clear) : c.operationDone true = c.workVerified op := by
  simp [Ctl.operationDone, busy, first, single]

/-- R33, R34: the record of a defined holder after SET BANDS. -/
theorem applyBands_of_defined {c : Ctl} {h : HolderId} {r : HolderRec} (d : HolderDef)
    (get : c.holders.get h = some r) : c.applyBands h d = { c with holders := c.holders.put h (some { r with defn := { r.defn with
      lowOffset := d.lowOffset, highOffset := d.highOffset, mode := d.mode } }) } := by
  simp [Ctl.applyBands, Ctl.modHolder, Ctl.putHolder, get]

/-- Settles O20: the end of an operation case by case, and what each verified work applies. -/
theorem settingsWritesEnd : Obligations.SettingsWritesEnd := by
  unfold Obligations.SettingsWritesEnd
  intro s verified on
  simp only [exec_storeOperationDone _ on]
  refine ⟨fun idle => ?_, fun op busy => ⟨fun foreign => ?_, fun first single => ?_, fun y first work => ?_,
    fun chars first work => ?_, fun h d r first work get => ?_⟩⟩
  · rw [operationDone_without verified idle, State.withCtl_self]
  · rw [operationDone_foreign verified busy foreign, State.withCtl_self]
  · rw [operationDone_unverified busy first single]
  · rw [operationDone_verified busy first (by simp [work]), Ctl.workVerified, work]
    rfl
  · rw [operationDone_verified busy first (by simp [work]), Ctl.workVerified, work]
    rfl
  · rw [operationDone_verified busy first (by simp [work]), Ctl.workVerified, work, Ctl.applyWork,
      applyBands_of_defined (c := { s.ctl with store := s.ctl.store.verified (.setBands h d) }) d get]
    rfl

end Sys2Proof.Supervision
end
